-- ==== Sys2Proof/Word.lean ====
section
/-! DEFINITION. The two word types of the machine and their plainest arithmetic (spec/00_scope.md R11):
a byte is 8 bits, a 16-bit value is 16 bits, bit 0 is the least significant, `hi ++ lo` puts `hi` in the high bits. -/

namespace Sys2Proof

/-- One byte (R11). -/
abbrev Byte := BitVec 8

/-- One 16-bit value: an address, a register pair, SP or PC (R11). -/
abbrev Word := BitVec 16

/-- `w[15:8]`. -/
def hiByte (w : Word) : Byte := w.extractLsb' 8 8

/-- `w[7:0]`. -/
def loByte (w : Word) : Byte := w.extractLsb' 0 8

/-- `hi ++ lo`: the first-named byte is the high one (R11, R21). -/
def wordOf (hi lo : Byte) : Word := hi ++ lo

/-- `sext_16(v)`: `v` if `v < 0x80`, else `0xFF00 + v` (R11). -/
def sext16 (v : Byte) : Word := v.signExtend 16

end Sys2Proof
end

