-- ==== Sys2Proof/Config.lean ====
section
/-! DEFINITION. What is fixed for the machine, and the free values: bytes the spec leaves unspecified
(spec/00_scope.md R10 `DRAW`, spec/92_eei_decisions.md D5, D12, D36, D37). A free value is an opaque constant: no
proof can see what it is, so a claim that is proved holds for every value. -/

namespace Sys2Proof

/-- Parameter `ENTRY` (R10, R44, D4): which of the two reset states the machine starts in. -/
inductive Entry where
  /-- The hardware's reset: PC = 0x0000 in the boot ROM. -/
  | powerOn
  /-- The state the boot program leaves when it hands over: PC = 0x0100 in the cartridge. -/
  | postBoot
  deriving DecidableEq, Repr

/-- `DRAW()`: the byte that the n-th unspecified read answers (R10, R69, R70, R118; U2, U3 `any value`).
State holds the counter `draws` that every such read advances, so two reads need not agree. Log entry 1. -/
opaque Config.draw : Nat → Byte

/-- The byte that address `a` of `mem` holds at reset where the spec gives none (work RAM, OAM, high RAM, wave RAM,
and of video RAM what a reset leaves unspecified: R44, U8 `any value`, the same byte each time until it is written).
Log entry 2. -/
opaque Config.ramByte : Nat → Byte

/-- The byte at offset `i` of cartridge RAM before anything has written it (R44, U8 `any value`). Log entry 2. -/
opaque Config.cartRamByte : Nat → Byte

/-- The byte at offset `i` of `CART_ROM` that no loader has placed: the image is a parameter of the machine
(R10, R90, U15). Log entry 3. -/
opaque Config.cartRomByte : Nat → Byte

/-- The byte at offset `i` of `BOOT_ROM` that no host has placed: the image is a parameter of the machine
(R10, D5, U15). Log entry 3. -/
opaque Config.bootRomByte : Nat → Byte

end Sys2Proof
end

