-- ==== Sys2Proof/Syntax.lean ====
section
/-! DEFINITION. The syntax, whole: the operand tables (spec/30_encoding.md R145 to R149), `Instr` with one constructor
per row of spec/opcode_table.json (R161: every row is fully expanded, so each names its own registers, bit or
condition), and `Form`, the mnemonic forms of spec/40_load8.md to 46_cpu_control.md that the rows instantiate (R143).
In a constructor's name `M` stands for the parentheses of a memory operand: `ldMhlA` is `LD (HL),A`. -/

namespace Sys2Proof

/-- The seven `r8` registers (R145; index 6 is `(HL)` and no register; `F` has no index). -/
inductive Reg8 where
  | b | c | d | e | h | l | a
  deriving DecidableEq, Repr

/-- Table `r16` (R146). -/
inductive Reg16 where
  | bc | de | hl | sp
  deriving DecidableEq, Repr

/-- Table `r16s` of `PUSH` and `POP` (R146). -/
inductive Reg16s where
  | bc | de | hl | af
  deriving DecidableEq, Repr

/-- The condition table `cc` (R147). -/
inductive Cond where
  | nz | z | nc | c
  deriving DecidableEq, Repr

/-- The ALU operation table (R148). -/
inductive AluOp where
  | add | adc | sub | sbc | and | xor | or | cp
  deriving DecidableEq, Repr

/-- The rotate/shift table of the 0xCB page (R149). -/
inductive ShiftOp where
  | rlc | rrc | rl | rr | sla | sra | swap | srl
  deriving DecidableEq, Repr

/-- The instructions: one constructor per row of spec/opcode_table.json. Immediates carry the byte or word of the
instruction stream (R150): `e8` is the raw byte, `a8` the page offset, `pad` the ignored second byte of `STOP`. The
rows that carry an operand stand first (Lean's compiler numbers a constructor with fields in one byte), then the other
rows, each part in the table's order. -/
inductive Instr where
  /-- `LD BC,n16, 01` (R200). -/
  | ldBcN16 (n16 : Word)
  /-- `LD B,n8, 06` (R172). -/
  | ldBN8 (n8 : Byte)
  /-- `LD (a16),SP, 08` (R201). -/
  | ldMa16Sp (a16 : Word)
  /-- `LD C,n8, 0E` (R172). -/
  | ldCN8 (n8 : Byte)
  /-- `STOP, 10` (R312). -/
  | stop (pad : Byte)
  /-- `LD DE,n16, 11` (R200). -/
  | ldDeN16 (n16 : Word)
  /-- `LD D,n8, 16` (R172). -/
  | ldDN8 (n8 : Byte)
  /-- `JR e8, 18` (R294). -/
  | jrE8 (e8 : Byte)
  /-- `LD E,n8, 1E` (R172). -/
  | ldEN8 (n8 : Byte)
  /-- `JR NZ,e8, 20` (R295). -/
  | jrNzE8 (e8 : Byte)
  /-- `LD HL,n16, 21` (R200). -/
  | ldHlN16 (n16 : Word)
  /-- `LD H,n8, 26` (R172). -/
  | ldHN8 (n8 : Byte)
  /-- `JR Z,e8, 28` (R295). -/
  | jrZE8 (e8 : Byte)
  /-- `LD L,n8, 2E` (R172). -/
  | ldLN8 (n8 : Byte)
  /-- `JR NC,e8, 30` (R295). -/
  | jrNcE8 (e8 : Byte)
  /-- `LD SP,n16, 31` (R200). -/
  | ldSpN16 (n16 : Word)
  /-- `LD (HL),n8, 36` (R175). -/
  | ldMhlN8 (n8 : Byte)
  /-- `JR C,e8, 38` (R295). -/
  | jrCE8 (e8 : Byte)
  /-- `LD A,n8, 3E` (R172). -/
  | ldAN8 (n8 : Byte)
  /-- `JP NZ,a16, C2` (R292). -/
  | jpNzA16 (a16 : Word)
  /-- `JP a16, C3` (R291). -/
  | jpA16 (a16 : Word)
  /-- `CALL NZ,a16, C4` (R297). -/
  | callNzA16 (a16 : Word)
  /-- `ADD A,n8, C6` (R218). -/
  | addAN8 (n8 : Byte)
  /-- `JP Z,a16, CA` (R292). -/
  | jpZA16 (a16 : Word)
  /-- `the prefix 0xCB, CB` (R315). -/
  | prefixCb (opcode2 : Byte)
  /-- `CALL Z,a16, CC` (R297). -/
  | callZA16 (a16 : Word)
  /-- `CALL a16, CD` (R296). -/
  | callA16 (a16 : Word)
  /-- `ADC A,n8, CE` (R221). -/
  | adcAN8 (n8 : Byte)
  /-- `JP NC,a16, D2` (R292). -/
  | jpNcA16 (a16 : Word)
  /-- `CALL NC,a16, D4` (R297). -/
  | callNcA16 (a16 : Word)
  /-- `SUB n8, D6` (R224). -/
  | subN8 (n8 : Byte)
  /-- `JP C,a16, DA` (R292). -/
  | jpCA16 (a16 : Word)
  /-- `CALL C,a16, DC` (R297). -/
  | callCA16 (a16 : Word)
  /-- `SBC A,n8, DE` (R227). -/
  | sbcAN8 (n8 : Byte)
  /-- `LDH (a8),A, E0` (R187). -/
  | ldhMa8A (a8 : Byte)
  /-- `AND n8, E6` (R230). -/
  | andN8 (n8 : Byte)
  /-- `ADD SP,e8, E8` (R253). -/
  | addSpE8 (e8 : Byte)
  /-- `LD (a16),A, EA` (R181). -/
  | ldMa16A (a16 : Word)
  /-- `XOR n8, EE` (R233). -/
  | xorN8 (n8 : Byte)
  /-- `LDH A,(a8), F0` (R188). -/
  | ldhAMa8 (a8 : Byte)
  /-- `OR n8, F6` (R236). -/
  | orN8 (n8 : Byte)
  /-- `LD HL,SP+e8, F8` (R203). -/
  | ldHlSpE8 (e8 : Byte)
  /-- `LD A,(a16), FA` (R180). -/
  | ldAMa16 (a16 : Word)
  /-- `CP n8, FE` (R239). -/
  | cpN8 (n8 : Byte)
  /-- `NOP, 00` (R310). -/
  | nop
  /-- `LD (BC),A, 02` (R178). -/
  | ldMbcA
  /-- `INC BC, 03` (R251). -/
  | incBc
  /-- `INC B, 04` (R240). -/
  | incB
  /-- `DEC B, 05` (R242). -/
  | decB
  /-- `RLCA, 07` (R260). -/
  | rlca
  /-- `ADD HL,BC, 09` (R250). -/
  | addHlBc
  /-- `LD A,(BC), 0A` (R176). -/
  | ldAMbc
  /-- `DEC BC, 0B` (R252). -/
  | decBc
  /-- `INC C, 0C` (R240). -/
  | incC
  /-- `DEC C, 0D` (R242). -/
  | decC
  /-- `RRCA, 0F` (R261). -/
  | rrca
  /-- `LD (DE),A, 12` (R179). -/
  | ldMdeA
  /-- `INC DE, 13` (R251). -/
  | incDe
  /-- `INC D, 14` (R240). -/
  | incD
  /-- `DEC D, 15` (R242). -/
  | decD
  /-- `RLA, 17` (R262). -/
  | rla
  /-- `ADD HL,DE, 19` (R250). -/
  | addHlDe
  /-- `LD A,(DE), 1A` (R177). -/
  | ldAMde
  /-- `DEC DE, 1B` (R252). -/
  | decDe
  /-- `INC E, 1C` (R240). -/
  | incE
  /-- `DEC E, 1D` (R242). -/
  | decE
  /-- `RRA, 1F` (R263). -/
  | rra
  /-- `LD (HL+),A, 22` (R182). -/
  | ldMhliA
  /-- `INC HL, 23` (R251). -/
  | incHl
  /-- `INC H, 24` (R240). -/
  | incH
  /-- `DEC H, 25` (R242). -/
  | decH
  /-- `DAA, 27` (R244). -/
  | daa
  /-- `ADD HL,HL, 29` (R250). -/
  | addHlHl
  /-- `LD A,(HL+), 2A` (R184). -/
  | ldAMhli
  /-- `DEC HL, 2B` (R252). -/
  | decHl
  /-- `INC L, 2C` (R240). -/
  | incL
  /-- `DEC L, 2D` (R242). -/
  | decL
  /-- `CPL, 2F` (R245). -/
  | cpl
  /-- `LD (HL-),A, 32` (R183). -/
  | ldMhldA
  /-- `INC SP, 33` (R251). -/
  | incSp
  /-- `INC (HL), 34` (R241). -/
  | incMhl
  /-- `DEC (HL), 35` (R243). -/
  | decMhl
  /-- `SCF, 37` (R246). -/
  | scf
  /-- `ADD HL,SP, 39` (R250). -/
  | addHlSp
  /-- `LD A,(HL-), 3A` (R185). -/
  | ldAMhld
  /-- `DEC SP, 3B` (R252). -/
  | decSp
  /-- `INC A, 3C` (R240). -/
  | incA
  /-- `DEC A, 3D` (R242). -/
  | decA
  /-- `CCF, 3F` (R247). -/
  | ccf
  /-- `LD B,B, 40` (R171). -/
  | ldBB
  /-- `LD B,C, 41` (R171). -/
  | ldBC
  /-- `LD B,D, 42` (R171). -/
  | ldBD
  /-- `LD B,E, 43` (R171). -/
  | ldBE
  /-- `LD B,H, 44` (R171). -/
  | ldBH
  /-- `LD B,L, 45` (R171). -/
  | ldBL
  /-- `LD B,(HL), 46` (R173). -/
  | ldBMhl
  /-- `LD B,A, 47` (R171). -/
  | ldBA
  /-- `LD C,B, 48` (R171). -/
  | ldCB
  /-- `LD C,C, 49` (R171). -/
  | ldCC
  /-- `LD C,D, 4A` (R171). -/
  | ldCD
  /-- `LD C,E, 4B` (R171). -/
  | ldCE
  /-- `LD C,H, 4C` (R171). -/
  | ldCH
  /-- `LD C,L, 4D` (R171). -/
  | ldCL
  /-- `LD C,(HL), 4E` (R173). -/
  | ldCMhl
  /-- `LD C,A, 4F` (R171). -/
  | ldCA
  /-- `LD D,B, 50` (R171). -/
  | ldDB
  /-- `LD D,C, 51` (R171). -/
  | ldDC
  /-- `LD D,D, 52` (R171). -/
  | ldDD
  /-- `LD D,E, 53` (R171). -/
  | ldDE
  /-- `LD D,H, 54` (R171). -/
  | ldDH
  /-- `LD D,L, 55` (R171). -/
  | ldDL
  /-- `LD D,(HL), 56` (R173). -/
  | ldDMhl
  /-- `LD D,A, 57` (R171). -/
  | ldDA
  /-- `LD E,B, 58` (R171). -/
  | ldEB
  /-- `LD E,C, 59` (R171). -/
  | ldEC
  /-- `LD E,D, 5A` (R171). -/
  | ldED
  /-- `LD E,E, 5B` (R171). -/
  | ldEE
  /-- `LD E,H, 5C` (R171). -/
  | ldEH
  /-- `LD E,L, 5D` (R171). -/
  | ldEL
  /-- `LD E,(HL), 5E` (R173). -/
  | ldEMhl
  /-- `LD E,A, 5F` (R171). -/
  | ldEA
  /-- `LD H,B, 60` (R171). -/
  | ldHB
  /-- `LD H,C, 61` (R171). -/
  | ldHC
  /-- `LD H,D, 62` (R171). -/
  | ldHD
  /-- `LD H,E, 63` (R171). -/
  | ldHE
  /-- `LD H,H, 64` (R171). -/
  | ldHH
  /-- `LD H,L, 65` (R171). -/
  | ldHL
  /-- `LD H,(HL), 66` (R173). -/
  | ldHMhl
  /-- `LD H,A, 67` (R171). -/
  | ldHA
  /-- `LD L,B, 68` (R171). -/
  | ldLB
  /-- `LD L,C, 69` (R171). -/
  | ldLC
  /-- `LD L,D, 6A` (R171). -/
  | ldLD
  /-- `LD L,E, 6B` (R171). -/
  | ldLE
  /-- `LD L,H, 6C` (R171). -/
  | ldLH
  /-- `LD L,L, 6D` (R171). -/
  | ldLL
  /-- `LD L,(HL), 6E` (R173). -/
  | ldLMhl
  /-- `LD L,A, 6F` (R171). -/
  | ldLA
  /-- `LD (HL),B, 70` (R174). -/
  | ldMhlB
  /-- `LD (HL),C, 71` (R174). -/
  | ldMhlC
  /-- `LD (HL),D, 72` (R174). -/
  | ldMhlD
  /-- `LD (HL),E, 73` (R174). -/
  | ldMhlE
  /-- `LD (HL),H, 74` (R174). -/
  | ldMhlH
  /-- `LD (HL),L, 75` (R174). -/
  | ldMhlL
  /-- `HALT, 76` (R311). -/
  | halt
  /-- `LD (HL),A, 77` (R174). -/
  | ldMhlA
  /-- `LD A,B, 78` (R171). -/
  | ldAB
  /-- `LD A,C, 79` (R171). -/
  | ldAC
  /-- `LD A,D, 7A` (R171). -/
  | ldAD
  /-- `LD A,E, 7B` (R171). -/
  | ldAE
  /-- `LD A,H, 7C` (R171). -/
  | ldAH
  /-- `LD A,L, 7D` (R171). -/
  | ldAL
  /-- `LD A,(HL), 7E` (R173). -/
  | ldAMhl
  /-- `LD A,A, 7F` (R171). -/
  | ldAA
  /-- `ADD A,B, 80` (R216). -/
  | addAB
  /-- `ADD A,C, 81` (R216). -/
  | addAC
  /-- `ADD A,D, 82` (R216). -/
  | addAD
  /-- `ADD A,E, 83` (R216). -/
  | addAE
  /-- `ADD A,H, 84` (R216). -/
  | addAH
  /-- `ADD A,L, 85` (R216). -/
  | addAL
  /-- `ADD A,(HL), 86` (R217). -/
  | addAMhl
  /-- `ADD A,A, 87` (R216). -/
  | addAA
  /-- `ADC A,B, 88` (R219). -/
  | adcAB
  /-- `ADC A,C, 89` (R219). -/
  | adcAC
  /-- `ADC A,D, 8A` (R219). -/
  | adcAD
  /-- `ADC A,E, 8B` (R219). -/
  | adcAE
  /-- `ADC A,H, 8C` (R219). -/
  | adcAH
  /-- `ADC A,L, 8D` (R219). -/
  | adcAL
  /-- `ADC A,(HL), 8E` (R220). -/
  | adcAMhl
  /-- `ADC A,A, 8F` (R219). -/
  | adcAA
  /-- `SUB B, 90` (R222). -/
  | subB
  /-- `SUB C, 91` (R222). -/
  | subC
  /-- `SUB D, 92` (R222). -/
  | subD
  /-- `SUB E, 93` (R222). -/
  | subE
  /-- `SUB H, 94` (R222). -/
  | subH
  /-- `SUB L, 95` (R222). -/
  | subL
  /-- `SUB (HL), 96` (R223). -/
  | subMhl
  /-- `SUB A, 97` (R222). -/
  | subA
  /-- `SBC A,B, 98` (R225). -/
  | sbcAB
  /-- `SBC A,C, 99` (R225). -/
  | sbcAC
  /-- `SBC A,D, 9A` (R225). -/
  | sbcAD
  /-- `SBC A,E, 9B` (R225). -/
  | sbcAE
  /-- `SBC A,H, 9C` (R225). -/
  | sbcAH
  /-- `SBC A,L, 9D` (R225). -/
  | sbcAL
  /-- `SBC A,(HL), 9E` (R226). -/
  | sbcAMhl
  /-- `SBC A,A, 9F` (R225). -/
  | sbcAA
  /-- `AND B, A0` (R228). -/
  | andB
  /-- `AND C, A1` (R228). -/
  | andC
  /-- `AND D, A2` (R228). -/
  | andD
  /-- `AND E, A3` (R228). -/
  | andE
  /-- `AND H, A4` (R228). -/
  | andH
  /-- `AND L, A5` (R228). -/
  | andL
  /-- `AND (HL), A6` (R229). -/
  | andMhl
  /-- `AND A, A7` (R228). -/
  | andA
  /-- `XOR B, A8` (R231). -/
  | xorB
  /-- `XOR C, A9` (R231). -/
  | xorC
  /-- `XOR D, AA` (R231). -/
  | xorD
  /-- `XOR E, AB` (R231). -/
  | xorE
  /-- `XOR H, AC` (R231). -/
  | xorH
  /-- `XOR L, AD` (R231). -/
  | xorL
  /-- `XOR (HL), AE` (R232). -/
  | xorMhl
  /-- `XOR A, AF` (R231). -/
  | xorA
  /-- `OR B, B0` (R234). -/
  | orB
  /-- `OR C, B1` (R234). -/
  | orC
  /-- `OR D, B2` (R234). -/
  | orD
  /-- `OR E, B3` (R234). -/
  | orE
  /-- `OR H, B4` (R234). -/
  | orH
  /-- `OR L, B5` (R234). -/
  | orL
  /-- `OR (HL), B6` (R235). -/
  | orMhl
  /-- `OR A, B7` (R234). -/
  | orA
  /-- `CP B, B8` (R237). -/
  | cpB
  /-- `CP C, B9` (R237). -/
  | cpC
  /-- `CP D, BA` (R237). -/
  | cpD
  /-- `CP E, BB` (R237). -/
  | cpE
  /-- `CP H, BC` (R237). -/
  | cpH
  /-- `CP L, BD` (R237). -/
  | cpL
  /-- `CP (HL), BE` (R238). -/
  | cpMhl
  /-- `CP A, BF` (R237). -/
  | cpA
  /-- `RET NZ, C0` (R299). -/
  | retNz
  /-- `POP BC, C1` (R208). -/
  | popBc
  /-- `PUSH BC, C5` (R207). -/
  | pushBc
  /-- `RST 0x00, C7` (R303). -/
  | rst00
  /-- `RET Z, C8` (R299). -/
  | retZ
  /-- `RET, C9` (R298). -/
  | ret
  /-- `RST 0x08, CF` (R303). -/
  | rst08
  /-- `RET NC, D0` (R299). -/
  | retNc
  /-- `POP DE, D1` (R208). -/
  | popDe
  /-- `illegal opcode 0xD3, D3` (R316). -/
  | illegalD3
  /-- `PUSH DE, D5` (R207). -/
  | pushDe
  /-- `RST 0x10, D7` (R303). -/
  | rst10
  /-- `RET C, D8` (R299). -/
  | retC
  /-- `RETI, D9` (R300). -/
  | reti
  /-- `illegal opcode 0xDB, DB` (R316). -/
  | illegalDB
  /-- `illegal opcode 0xDD, DD` (R316). -/
  | illegalDD
  /-- `RST 0x18, DF` (R303). -/
  | rst18
  /-- `POP HL, E1` (R208). -/
  | popHl
  /-- `LD (C),A, E2` (R189). -/
  | ldMcA
  /-- `illegal opcode 0xE3, E3` (R316). -/
  | illegalE3
  /-- `illegal opcode 0xE4, E4` (R316). -/
  | illegalE4
  /-- `PUSH HL, E5` (R207). -/
  | pushHl
  /-- `RST 0x20, E7` (R303). -/
  | rst20
  /-- `JP HL, E9` (R293). -/
  | jpHl
  /-- `illegal opcode 0xEB, EB` (R316). -/
  | illegalEB
  /-- `illegal opcode 0xEC, EC` (R316). -/
  | illegalEC
  /-- `illegal opcode 0xED, ED` (R316). -/
  | illegalED
  /-- `RST 0x28, EF` (R303). -/
  | rst28
  /-- `POP AF, F1` (R208). -/
  | popAf
  /-- `LD A,(C), F2` (R190). -/
  | ldAMc
  /-- `DI, F3` (R313). -/
  | di
  /-- `illegal opcode 0xF4, F4` (R316). -/
  | illegalF4
  /-- `PUSH AF, F5` (R207). -/
  | pushAf
  /-- `RST 0x30, F7` (R303). -/
  | rst30
  /-- `LD SP,HL, F9` (R202). -/
  | ldSpHl
  /-- `EI, FB` (R314). -/
  | ei
  /-- `illegal opcode 0xFC, FC` (R316). -/
  | illegalFC
  /-- `illegal opcode 0xFD, FD` (R316). -/
  | illegalFD
  /-- `RST 0x38, FF` (R303). -/
  | rst38
  /-- `RLC B, CB 00` (R265). -/
  | rlcB
  /-- `RLC C, CB 01` (R265). -/
  | rlcC
  /-- `RLC D, CB 02` (R265). -/
  | rlcD
  /-- `RLC E, CB 03` (R265). -/
  | rlcE
  /-- `RLC H, CB 04` (R265). -/
  | rlcH
  /-- `RLC L, CB 05` (R265). -/
  | rlcL
  /-- `RLC (HL), CB 06` (R266). -/
  | rlcMhl
  /-- `RLC A, CB 07` (R265). -/
  | rlcA
  /-- `RRC B, CB 08` (R267). -/
  | rrcB
  /-- `RRC C, CB 09` (R267). -/
  | rrcC
  /-- `RRC D, CB 0A` (R267). -/
  | rrcD
  /-- `RRC E, CB 0B` (R267). -/
  | rrcE
  /-- `RRC H, CB 0C` (R267). -/
  | rrcH
  /-- `RRC L, CB 0D` (R267). -/
  | rrcL
  /-- `RRC (HL), CB 0E` (R268). -/
  | rrcMhl
  /-- `RRC A, CB 0F` (R267). -/
  | rrcA
  /-- `RL B, CB 10` (R269). -/
  | rlB
  /-- `RL C, CB 11` (R269). -/
  | rlC
  /-- `RL D, CB 12` (R269). -/
  | rlD
  /-- `RL E, CB 13` (R269). -/
  | rlE
  /-- `RL H, CB 14` (R269). -/
  | rlH
  /-- `RL L, CB 15` (R269). -/
  | rlL
  /-- `RL (HL), CB 16` (R270). -/
  | rlMhl
  /-- `RL A, CB 17` (R269). -/
  | rlA
  /-- `RR B, CB 18` (R271). -/
  | rrB
  /-- `RR C, CB 19` (R271). -/
  | rrC
  /-- `RR D, CB 1A` (R271). -/
  | rrD
  /-- `RR E, CB 1B` (R271). -/
  | rrE
  /-- `RR H, CB 1C` (R271). -/
  | rrH
  /-- `RR L, CB 1D` (R271). -/
  | rrL
  /-- `RR (HL), CB 1E` (R272). -/
  | rrMhl
  /-- `RR A, CB 1F` (R271). -/
  | rrA
  /-- `SLA B, CB 20` (R273). -/
  | slaB
  /-- `SLA C, CB 21` (R273). -/
  | slaC
  /-- `SLA D, CB 22` (R273). -/
  | slaD
  /-- `SLA E, CB 23` (R273). -/
  | slaE
  /-- `SLA H, CB 24` (R273). -/
  | slaH
  /-- `SLA L, CB 25` (R273). -/
  | slaL
  /-- `SLA (HL), CB 26` (R274). -/
  | slaMhl
  /-- `SLA A, CB 27` (R273). -/
  | slaA
  /-- `SRA B, CB 28` (R275). -/
  | sraB
  /-- `SRA C, CB 29` (R275). -/
  | sraC
  /-- `SRA D, CB 2A` (R275). -/
  | sraD
  /-- `SRA E, CB 2B` (R275). -/
  | sraE
  /-- `SRA H, CB 2C` (R275). -/
  | sraH
  /-- `SRA L, CB 2D` (R275). -/
  | sraL
  /-- `SRA (HL), CB 2E` (R276). -/
  | sraMhl
  /-- `SRA A, CB 2F` (R275). -/
  | sraA
  /-- `SWAP B, CB 30` (R277). -/
  | swapB
  /-- `SWAP C, CB 31` (R277). -/
  | swapC
  /-- `SWAP D, CB 32` (R277). -/
  | swapD
  /-- `SWAP E, CB 33` (R277). -/
  | swapE
  /-- `SWAP H, CB 34` (R277). -/
  | swapH
  /-- `SWAP L, CB 35` (R277). -/
  | swapL
  /-- `SWAP (HL), CB 36` (R278). -/
  | swapMhl
  /-- `SWAP A, CB 37` (R277). -/
  | swapA
  /-- `SRL B, CB 38` (R279). -/
  | srlB
  /-- `SRL C, CB 39` (R279). -/
  | srlC
  /-- `SRL D, CB 3A` (R279). -/
  | srlD
  /-- `SRL E, CB 3B` (R279). -/
  | srlE
  /-- `SRL H, CB 3C` (R279). -/
  | srlH
  /-- `SRL L, CB 3D` (R279). -/
  | srlL
  /-- `SRL (HL), CB 3E` (R280). -/
  | srlMhl
  /-- `SRL A, CB 3F` (R279). -/
  | srlA
  /-- `BIT 0,B, CB 40` (R281). -/
  | bit0B
  /-- `BIT 0,C, CB 41` (R281). -/
  | bit0C
  /-- `BIT 0,D, CB 42` (R281). -/
  | bit0D
  /-- `BIT 0,E, CB 43` (R281). -/
  | bit0E
  /-- `BIT 0,H, CB 44` (R281). -/
  | bit0H
  /-- `BIT 0,L, CB 45` (R281). -/
  | bit0L
  /-- `BIT 0,(HL), CB 46` (R282). -/
  | bit0Mhl
  /-- `BIT 0,A, CB 47` (R281). -/
  | bit0A
  /-- `BIT 1,B, CB 48` (R281). -/
  | bit1B
  /-- `BIT 1,C, CB 49` (R281). -/
  | bit1C
  /-- `BIT 1,D, CB 4A` (R281). -/
  | bit1D
  /-- `BIT 1,E, CB 4B` (R281). -/
  | bit1E
  /-- `BIT 1,H, CB 4C` (R281). -/
  | bit1H
  /-- `BIT 1,L, CB 4D` (R281). -/
  | bit1L
  /-- `BIT 1,(HL), CB 4E` (R282). -/
  | bit1Mhl
  /-- `BIT 1,A, CB 4F` (R281). -/
  | bit1A
  /-- `BIT 2,B, CB 50` (R281). -/
  | bit2B
  /-- `BIT 2,C, CB 51` (R281). -/
  | bit2C
  /-- `BIT 2,D, CB 52` (R281). -/
  | bit2D
  /-- `BIT 2,E, CB 53` (R281). -/
  | bit2E
  /-- `BIT 2,H, CB 54` (R281). -/
  | bit2H
  /-- `BIT 2,L, CB 55` (R281). -/
  | bit2L
  /-- `BIT 2,(HL), CB 56` (R282). -/
  | bit2Mhl
  /-- `BIT 2,A, CB 57` (R281). -/
  | bit2A
  /-- `BIT 3,B, CB 58` (R281). -/
  | bit3B
  /-- `BIT 3,C, CB 59` (R281). -/
  | bit3C
  /-- `BIT 3,D, CB 5A` (R281). -/
  | bit3D
  /-- `BIT 3,E, CB 5B` (R281). -/
  | bit3E
  /-- `BIT 3,H, CB 5C` (R281). -/
  | bit3H
  /-- `BIT 3,L, CB 5D` (R281). -/
  | bit3L
  /-- `BIT 3,(HL), CB 5E` (R282). -/
  | bit3Mhl
  /-- `BIT 3,A, CB 5F` (R281). -/
  | bit3A
  /-- `BIT 4,B, CB 60` (R281). -/
  | bit4B
  /-- `BIT 4,C, CB 61` (R281). -/
  | bit4C
  /-- `BIT 4,D, CB 62` (R281). -/
  | bit4D
  /-- `BIT 4,E, CB 63` (R281). -/
  | bit4E
  /-- `BIT 4,H, CB 64` (R281). -/
  | bit4H
  /-- `BIT 4,L, CB 65` (R281). -/
  | bit4L
  /-- `BIT 4,(HL), CB 66` (R282). -/
  | bit4Mhl
  /-- `BIT 4,A, CB 67` (R281). -/
  | bit4A
  /-- `BIT 5,B, CB 68` (R281). -/
  | bit5B
  /-- `BIT 5,C, CB 69` (R281). -/
  | bit5C
  /-- `BIT 5,D, CB 6A` (R281). -/
  | bit5D
  /-- `BIT 5,E, CB 6B` (R281). -/
  | bit5E
  /-- `BIT 5,H, CB 6C` (R281). -/
  | bit5H
  /-- `BIT 5,L, CB 6D` (R281). -/
  | bit5L
  /-- `BIT 5,(HL), CB 6E` (R282). -/
  | bit5Mhl
  /-- `BIT 5,A, CB 6F` (R281). -/
  | bit5A
  /-- `BIT 6,B, CB 70` (R281). -/
  | bit6B
  /-- `BIT 6,C, CB 71` (R281). -/
  | bit6C
  /-- `BIT 6,D, CB 72` (R281). -/
  | bit6D
  /-- `BIT 6,E, CB 73` (R281). -/
  | bit6E
  /-- `BIT 6,H, CB 74` (R281). -/
  | bit6H
  /-- `BIT 6,L, CB 75` (R281). -/
  | bit6L
  /-- `BIT 6,(HL), CB 76` (R282). -/
  | bit6Mhl
  /-- `BIT 6,A, CB 77` (R281). -/
  | bit6A
  /-- `BIT 7,B, CB 78` (R281). -/
  | bit7B
  /-- `BIT 7,C, CB 79` (R281). -/
  | bit7C
  /-- `BIT 7,D, CB 7A` (R281). -/
  | bit7D
  /-- `BIT 7,E, CB 7B` (R281). -/
  | bit7E
  /-- `BIT 7,H, CB 7C` (R281). -/
  | bit7H
  /-- `BIT 7,L, CB 7D` (R281). -/
  | bit7L
  /-- `BIT 7,(HL), CB 7E` (R282). -/
  | bit7Mhl
  /-- `BIT 7,A, CB 7F` (R281). -/
  | bit7A
  /-- `RES 0,B, CB 80` (R283). -/
  | res0B
  /-- `RES 0,C, CB 81` (R283). -/
  | res0C
  /-- `RES 0,D, CB 82` (R283). -/
  | res0D
  /-- `RES 0,E, CB 83` (R283). -/
  | res0E
  /-- `RES 0,H, CB 84` (R283). -/
  | res0H
  /-- `RES 0,L, CB 85` (R283). -/
  | res0L
  /-- `RES 0,(HL), CB 86` (R284). -/
  | res0Mhl
  /-- `RES 0,A, CB 87` (R283). -/
  | res0A
  /-- `RES 1,B, CB 88` (R283). -/
  | res1B
  /-- `RES 1,C, CB 89` (R283). -/
  | res1C
  /-- `RES 1,D, CB 8A` (R283). -/
  | res1D
  /-- `RES 1,E, CB 8B` (R283). -/
  | res1E
  /-- `RES 1,H, CB 8C` (R283). -/
  | res1H
  /-- `RES 1,L, CB 8D` (R283). -/
  | res1L
  /-- `RES 1,(HL), CB 8E` (R284). -/
  | res1Mhl
  /-- `RES 1,A, CB 8F` (R283). -/
  | res1A
  /-- `RES 2,B, CB 90` (R283). -/
  | res2B
  /-- `RES 2,C, CB 91` (R283). -/
  | res2C
  /-- `RES 2,D, CB 92` (R283). -/
  | res2D
  /-- `RES 2,E, CB 93` (R283). -/
  | res2E
  /-- `RES 2,H, CB 94` (R283). -/
  | res2H
  /-- `RES 2,L, CB 95` (R283). -/
  | res2L
  /-- `RES 2,(HL), CB 96` (R284). -/
  | res2Mhl
  /-- `RES 2,A, CB 97` (R283). -/
  | res2A
  /-- `RES 3,B, CB 98` (R283). -/
  | res3B
  /-- `RES 3,C, CB 99` (R283). -/
  | res3C
  /-- `RES 3,D, CB 9A` (R283). -/
  | res3D
  /-- `RES 3,E, CB 9B` (R283). -/
  | res3E
  /-- `RES 3,H, CB 9C` (R283). -/
  | res3H
  /-- `RES 3,L, CB 9D` (R283). -/
  | res3L
  /-- `RES 3,(HL), CB 9E` (R284). -/
  | res3Mhl
  /-- `RES 3,A, CB 9F` (R283). -/
  | res3A
  /-- `RES 4,B, CB A0` (R283). -/
  | res4B
  /-- `RES 4,C, CB A1` (R283). -/
  | res4C
  /-- `RES 4,D, CB A2` (R283). -/
  | res4D
  /-- `RES 4,E, CB A3` (R283). -/
  | res4E
  /-- `RES 4,H, CB A4` (R283). -/
  | res4H
  /-- `RES 4,L, CB A5` (R283). -/
  | res4L
  /-- `RES 4,(HL), CB A6` (R284). -/
  | res4Mhl
  /-- `RES 4,A, CB A7` (R283). -/
  | res4A
  /-- `RES 5,B, CB A8` (R283). -/
  | res5B
  /-- `RES 5,C, CB A9` (R283). -/
  | res5C
  /-- `RES 5,D, CB AA` (R283). -/
  | res5D
  /-- `RES 5,E, CB AB` (R283). -/
  | res5E
  /-- `RES 5,H, CB AC` (R283). -/
  | res5H
  /-- `RES 5,L, CB AD` (R283). -/
  | res5L
  /-- `RES 5,(HL), CB AE` (R284). -/
  | res5Mhl
  /-- `RES 5,A, CB AF` (R283). -/
  | res5A
  /-- `RES 6,B, CB B0` (R283). -/
  | res6B
  /-- `RES 6,C, CB B1` (R283). -/
  | res6C
  /-- `RES 6,D, CB B2` (R283). -/
  | res6D
  /-- `RES 6,E, CB B3` (R283). -/
  | res6E
  /-- `RES 6,H, CB B4` (R283). -/
  | res6H
  /-- `RES 6,L, CB B5` (R283). -/
  | res6L
  /-- `RES 6,(HL), CB B6` (R284). -/
  | res6Mhl
  /-- `RES 6,A, CB B7` (R283). -/
  | res6A
  /-- `RES 7,B, CB B8` (R283). -/
  | res7B
  /-- `RES 7,C, CB B9` (R283). -/
  | res7C
  /-- `RES 7,D, CB BA` (R283). -/
  | res7D
  /-- `RES 7,E, CB BB` (R283). -/
  | res7E
  /-- `RES 7,H, CB BC` (R283). -/
  | res7H
  /-- `RES 7,L, CB BD` (R283). -/
  | res7L
  /-- `RES 7,(HL), CB BE` (R284). -/
  | res7Mhl
  /-- `RES 7,A, CB BF` (R283). -/
  | res7A
  /-- `SET 0,B, CB C0` (R285). -/
  | set0B
  /-- `SET 0,C, CB C1` (R285). -/
  | set0C
  /-- `SET 0,D, CB C2` (R285). -/
  | set0D
  /-- `SET 0,E, CB C3` (R285). -/
  | set0E
  /-- `SET 0,H, CB C4` (R285). -/
  | set0H
  /-- `SET 0,L, CB C5` (R285). -/
  | set0L
  /-- `SET 0,(HL), CB C6` (R286). -/
  | set0Mhl
  /-- `SET 0,A, CB C7` (R285). -/
  | set0A
  /-- `SET 1,B, CB C8` (R285). -/
  | set1B
  /-- `SET 1,C, CB C9` (R285). -/
  | set1C
  /-- `SET 1,D, CB CA` (R285). -/
  | set1D
  /-- `SET 1,E, CB CB` (R285). -/
  | set1E
  /-- `SET 1,H, CB CC` (R285). -/
  | set1H
  /-- `SET 1,L, CB CD` (R285). -/
  | set1L
  /-- `SET 1,(HL), CB CE` (R286). -/
  | set1Mhl
  /-- `SET 1,A, CB CF` (R285). -/
  | set1A
  /-- `SET 2,B, CB D0` (R285). -/
  | set2B
  /-- `SET 2,C, CB D1` (R285). -/
  | set2C
  /-- `SET 2,D, CB D2` (R285). -/
  | set2D
  /-- `SET 2,E, CB D3` (R285). -/
  | set2E
  /-- `SET 2,H, CB D4` (R285). -/
  | set2H
  /-- `SET 2,L, CB D5` (R285). -/
  | set2L
  /-- `SET 2,(HL), CB D6` (R286). -/
  | set2Mhl
  /-- `SET 2,A, CB D7` (R285). -/
  | set2A
  /-- `SET 3,B, CB D8` (R285). -/
  | set3B
  /-- `SET 3,C, CB D9` (R285). -/
  | set3C
  /-- `SET 3,D, CB DA` (R285). -/
  | set3D
  /-- `SET 3,E, CB DB` (R285). -/
  | set3E
  /-- `SET 3,H, CB DC` (R285). -/
  | set3H
  /-- `SET 3,L, CB DD` (R285). -/
  | set3L
  /-- `SET 3,(HL), CB DE` (R286). -/
  | set3Mhl
  /-- `SET 3,A, CB DF` (R285). -/
  | set3A
  /-- `SET 4,B, CB E0` (R285). -/
  | set4B
  /-- `SET 4,C, CB E1` (R285). -/
  | set4C
  /-- `SET 4,D, CB E2` (R285). -/
  | set4D
  /-- `SET 4,E, CB E3` (R285). -/
  | set4E
  /-- `SET 4,H, CB E4` (R285). -/
  | set4H
  /-- `SET 4,L, CB E5` (R285). -/
  | set4L
  /-- `SET 4,(HL), CB E6` (R286). -/
  | set4Mhl
  /-- `SET 4,A, CB E7` (R285). -/
  | set4A
  /-- `SET 5,B, CB E8` (R285). -/
  | set5B
  /-- `SET 5,C, CB E9` (R285). -/
  | set5C
  /-- `SET 5,D, CB EA` (R285). -/
  | set5D
  /-- `SET 5,E, CB EB` (R285). -/
  | set5E
  /-- `SET 5,H, CB EC` (R285). -/
  | set5H
  /-- `SET 5,L, CB ED` (R285). -/
  | set5L
  /-- `SET 5,(HL), CB EE` (R286). -/
  | set5Mhl
  /-- `SET 5,A, CB EF` (R285). -/
  | set5A
  /-- `SET 6,B, CB F0` (R285). -/
  | set6B
  /-- `SET 6,C, CB F1` (R285). -/
  | set6C
  /-- `SET 6,D, CB F2` (R285). -/
  | set6D
  /-- `SET 6,E, CB F3` (R285). -/
  | set6E
  /-- `SET 6,H, CB F4` (R285). -/
  | set6H
  /-- `SET 6,L, CB F5` (R285). -/
  | set6L
  /-- `SET 6,(HL), CB F6` (R286). -/
  | set6Mhl
  /-- `SET 6,A, CB F7` (R285). -/
  | set6A
  /-- `SET 7,B, CB F8` (R285). -/
  | set7B
  /-- `SET 7,C, CB F9` (R285). -/
  | set7C
  /-- `SET 7,D, CB FA` (R285). -/
  | set7D
  /-- `SET 7,E, CB FB` (R285). -/
  | set7E
  /-- `SET 7,H, CB FC` (R285). -/
  | set7H
  /-- `SET 7,L, CB FD` (R285). -/
  | set7L
  /-- `SET 7,(HL), CB FE` (R286). -/
  | set7Mhl
  /-- `SET 7,A, CB FF` (R285). -/
  | set7A
  deriving DecidableEq, Repr

/-- The mnemonic forms with their decoded operands: one constructor per instruction rule of spec/40_load8.md to
46_cpu_control.md (the eight ALU operations and the eight rotate/shift operations carried by an operand). -/
inductive Form where
  | ldRegReg (dst src : Reg8) | ldRegN8 (dst : Reg8) (n8 : Byte) | ldRegMhl (dst : Reg8) | ldMhlReg (src : Reg8) | ldMhlN8 (n8 : Byte)
  | ldAMbc | ldAMde | ldMbcA | ldMdeA | ldAMa16 (a16 : Word) | ldMa16A (a16 : Word)
  | ldMhliA | ldMhldA | ldAMhli | ldAMhld | ldhMa8A (a8 : Byte) | ldhAMa8 (a8 : Byte) | ldMcA | ldAMc
  | ldR16N16 (p : Reg16) (n16 : Word) | ldMa16Sp (a16 : Word) | ldSpHl | ldHlSpE8 (e8 : Byte) | push (p : Reg16s) | pop (p : Reg16s)
  | aluReg (op : AluOp) (r : Reg8) | aluMhl (op : AluOp) | aluN8 (op : AluOp) (n8 : Byte)
  | incReg (r : Reg8) | incMhl | decReg (r : Reg8) | decMhl | daa | cpl | scf | ccf
  | addHlR16 (p : Reg16) | incR16 (p : Reg16) | decR16 (p : Reg16) | addSpE8 (e8 : Byte)
  | rlca | rrca | rla | rra | shiftReg (op : ShiftOp) (r : Reg8) | shiftMhl (op : ShiftOp)
  | bitReg (bit : BitVec 3) (r : Reg8) | bitMhl (bit : BitVec 3) | resReg (bit : BitVec 3) (r : Reg8) | resMhl (bit : BitVec 3)
  | setReg (bit : BitVec 3) (r : Reg8) | setMhl (bit : BitVec 3)
  | jp (a16 : Word) | jpCc (cc : Cond) (a16 : Word) | jpHl | jr (e8 : Byte) | jrCc (cc : Cond) (e8 : Byte)
  | call (a16 : Word) | callCc (cc : Cond) (a16 : Word) | ret | retCc (cc : Cond) | reti | rst (t : BitVec 3)
  | nop | halt | stop (pad : Byte) | di | ei | prefixCb (opcode2 : Byte) | illegal (op : Byte)
  deriving DecidableEq, Repr

end Sys2Proof
end

