-- ==== Sys2Proof/WellFormed.lean ====
section
/-! DEFINITION. Which instructions are well formed. Every operand of `Instr` has the width its encoding gives it, so a
term can be ill formed in one way only: the prefix 0xCB is not an instruction by itself (spec/46_cpu_control.md R315,
spec/30_encoding.md R161: a decoder that meets it reads the next byte and uses the `CB` rows). -/

namespace Sys2Proof

/-- The check: everything but the bare prefix row. -/
def Instr.wellFormed (i : Instr) : Bool :=
  match i with
  | .prefixCb _ => false
  | _ => true

/-- `i` is an instruction that some bytes encode. -/
abbrev Instr.WellFormed (i : Instr) : Prop := i.wellFormed = true

end Sys2Proof
end

