-- ==== Sys2Proof/Decode.lean ====
section
/-! DEFINITION. The decoder, read off the two grids of the spec (spec/30_encoding.md R162 and R164, the tables of
R161), the lengths (R163), and the encoder, written from the bit patterns of R141 to R155. The two come from different
tables of the spec, so that their agreement says something. -/

namespace Sys2Proof

/-! ## Field codes -/

/-- The index of a register in the `r8` table (R145). -/
def Reg8.code : Reg8 → BitVec 3
  | .b => 0 | .c => 1 | .d => 2 | .e => 3 | .h => 4 | .l => 5 | .a => 7

/-- The register of an `r8` index; `none` is index 6, the byte at `HL` (R145). -/
def Reg8.ofCode (i : BitVec 3) : Option Reg8 :=
  if i = 0 then some .b else if i = 1 then some .c else if i = 2 then some .d else if i = 3 then some .e
  else if i = 4 then some .h else if i = 5 then some .l else if i = 6 then none else some .a

/-- The index of a pair in table `r16` (R146). -/
def Reg16.code : Reg16 → BitVec 2
  | .bc => 0 | .de => 1 | .hl => 2 | .sp => 3

/-- The index of a pair in table `r16s` (R146). -/
def Reg16s.code : Reg16s → BitVec 2
  | .bc => 0 | .de => 1 | .hl => 2 | .af => 3

/-- The index of a condition (R147). -/
def Cond.code : Cond → BitVec 2
  | .nz => 0 | .z => 1 | .nc => 2 | .c => 3

/-- The index of an ALU operation (R148). -/
def AluOp.code : AluOp → BitVec 3
  | .add => 0 | .adc => 1 | .sub => 2 | .sbc => 3 | .and => 4 | .xor => 5 | .or => 6 | .cp => 7

/-- The index of a rotate/shift operation (R149). -/
def ShiftOp.code : ShiftOp → BitVec 3
  | .rlc => 0 | .rrc => 1 | .rl => 2 | .rr => 3 | .sla => 4 | .sra => 5 | .swap => 6 | .srl => 7

/-- The operation of a rotate/shift index (R149). -/
def ShiftOp.ofCode (i : BitVec 3) : ShiftOp :=
  if i = 0 then .rlc else if i = 1 then .rrc else if i = 2 then .rl else if i = 3 then .rr
  else if i = 4 then .sla else if i = 5 then .sra else if i = 6 then .swap else .srl

/-! ## The form of each row -/

/-- The mnemonic form of each row, with the operands the row's fields give (R161). -/
def Instr.form : Instr → Form
  | .nop => .nop
  | .ldBcN16 n16 => .ldR16N16 .bc n16
  | .ldMbcA => .ldMbcA
  | .incBc => .incR16 .bc
  | .incB => .incReg .b
  | .decB => .decReg .b
  | .ldBN8 n8 => .ldRegN8 .b n8
  | .rlca => .rlca
  | .ldMa16Sp a16 => .ldMa16Sp a16
  | .addHlBc => .addHlR16 .bc
  | .ldAMbc => .ldAMbc
  | .decBc => .decR16 .bc
  | .incC => .incReg .c
  | .decC => .decReg .c
  | .ldCN8 n8 => .ldRegN8 .c n8
  | .rrca => .rrca
  | .stop pad => .stop pad
  | .ldDeN16 n16 => .ldR16N16 .de n16
  | .ldMdeA => .ldMdeA
  | .incDe => .incR16 .de
  | .incD => .incReg .d
  | .decD => .decReg .d
  | .ldDN8 n8 => .ldRegN8 .d n8
  | .rla => .rla
  | .jrE8 e8 => .jr e8
  | .addHlDe => .addHlR16 .de
  | .ldAMde => .ldAMde
  | .decDe => .decR16 .de
  | .incE => .incReg .e
  | .decE => .decReg .e
  | .ldEN8 n8 => .ldRegN8 .e n8
  | .rra => .rra
  | .jrNzE8 e8 => .jrCc .nz e8
  | .ldHlN16 n16 => .ldR16N16 .hl n16
  | .ldMhliA => .ldMhliA
  | .incHl => .incR16 .hl
  | .incH => .incReg .h
  | .decH => .decReg .h
  | .ldHN8 n8 => .ldRegN8 .h n8
  | .daa => .daa
  | .jrZE8 e8 => .jrCc .z e8
  | .addHlHl => .addHlR16 .hl
  | .ldAMhli => .ldAMhli
  | .decHl => .decR16 .hl
  | .incL => .incReg .l
  | .decL => .decReg .l
  | .ldLN8 n8 => .ldRegN8 .l n8
  | .cpl => .cpl
  | .jrNcE8 e8 => .jrCc .nc e8
  | .ldSpN16 n16 => .ldR16N16 .sp n16
  | .ldMhldA => .ldMhldA
  | .incSp => .incR16 .sp
  | .incMhl => .incMhl
  | .decMhl => .decMhl
  | .ldMhlN8 n8 => .ldMhlN8 n8
  | .scf => .scf
  | .jrCE8 e8 => .jrCc .c e8
  | .addHlSp => .addHlR16 .sp
  | .ldAMhld => .ldAMhld
  | .decSp => .decR16 .sp
  | .incA => .incReg .a
  | .decA => .decReg .a
  | .ldAN8 n8 => .ldRegN8 .a n8
  | .ccf => .ccf
  | .ldBB => .ldRegReg .b .b
  | .ldBC => .ldRegReg .b .c
  | .ldBD => .ldRegReg .b .d
  | .ldBE => .ldRegReg .b .e
  | .ldBH => .ldRegReg .b .h
  | .ldBL => .ldRegReg .b .l
  | .ldBMhl => .ldRegMhl .b
  | .ldBA => .ldRegReg .b .a
  | .ldCB => .ldRegReg .c .b
  | .ldCC => .ldRegReg .c .c
  | .ldCD => .ldRegReg .c .d
  | .ldCE => .ldRegReg .c .e
  | .ldCH => .ldRegReg .c .h
  | .ldCL => .ldRegReg .c .l
  | .ldCMhl => .ldRegMhl .c
  | .ldCA => .ldRegReg .c .a
  | .ldDB => .ldRegReg .d .b
  | .ldDC => .ldRegReg .d .c
  | .ldDD => .ldRegReg .d .d
  | .ldDE => .ldRegReg .d .e
  | .ldDH => .ldRegReg .d .h
  | .ldDL => .ldRegReg .d .l
  | .ldDMhl => .ldRegMhl .d
  | .ldDA => .ldRegReg .d .a
  | .ldEB => .ldRegReg .e .b
  | .ldEC => .ldRegReg .e .c
  | .ldED => .ldRegReg .e .d
  | .ldEE => .ldRegReg .e .e
  | .ldEH => .ldRegReg .e .h
  | .ldEL => .ldRegReg .e .l
  | .ldEMhl => .ldRegMhl .e
  | .ldEA => .ldRegReg .e .a
  | .ldHB => .ldRegReg .h .b
  | .ldHC => .ldRegReg .h .c
  | .ldHD => .ldRegReg .h .d
  | .ldHE => .ldRegReg .h .e
  | .ldHH => .ldRegReg .h .h
  | .ldHL => .ldRegReg .h .l
  | .ldHMhl => .ldRegMhl .h
  | .ldHA => .ldRegReg .h .a
  | .ldLB => .ldRegReg .l .b
  | .ldLC => .ldRegReg .l .c
  | .ldLD => .ldRegReg .l .d
  | .ldLE => .ldRegReg .l .e
  | .ldLH => .ldRegReg .l .h
  | .ldLL => .ldRegReg .l .l
  | .ldLMhl => .ldRegMhl .l
  | .ldLA => .ldRegReg .l .a
  | .ldMhlB => .ldMhlReg .b
  | .ldMhlC => .ldMhlReg .c
  | .ldMhlD => .ldMhlReg .d
  | .ldMhlE => .ldMhlReg .e
  | .ldMhlH => .ldMhlReg .h
  | .ldMhlL => .ldMhlReg .l
  | .halt => .halt
  | .ldMhlA => .ldMhlReg .a
  | .ldAB => .ldRegReg .a .b
  | .ldAC => .ldRegReg .a .c
  | .ldAD => .ldRegReg .a .d
  | .ldAE => .ldRegReg .a .e
  | .ldAH => .ldRegReg .a .h
  | .ldAL => .ldRegReg .a .l
  | .ldAMhl => .ldRegMhl .a
  | .ldAA => .ldRegReg .a .a
  | .addAB => .aluReg .add .b
  | .addAC => .aluReg .add .c
  | .addAD => .aluReg .add .d
  | .addAE => .aluReg .add .e
  | .addAH => .aluReg .add .h
  | .addAL => .aluReg .add .l
  | .addAMhl => .aluMhl .add
  | .addAA => .aluReg .add .a
  | .adcAB => .aluReg .adc .b
  | .adcAC => .aluReg .adc .c
  | .adcAD => .aluReg .adc .d
  | .adcAE => .aluReg .adc .e
  | .adcAH => .aluReg .adc .h
  | .adcAL => .aluReg .adc .l
  | .adcAMhl => .aluMhl .adc
  | .adcAA => .aluReg .adc .a
  | .subB => .aluReg .sub .b
  | .subC => .aluReg .sub .c
  | .subD => .aluReg .sub .d
  | .subE => .aluReg .sub .e
  | .subH => .aluReg .sub .h
  | .subL => .aluReg .sub .l
  | .subMhl => .aluMhl .sub
  | .subA => .aluReg .sub .a
  | .sbcAB => .aluReg .sbc .b
  | .sbcAC => .aluReg .sbc .c
  | .sbcAD => .aluReg .sbc .d
  | .sbcAE => .aluReg .sbc .e
  | .sbcAH => .aluReg .sbc .h
  | .sbcAL => .aluReg .sbc .l
  | .sbcAMhl => .aluMhl .sbc
  | .sbcAA => .aluReg .sbc .a
  | .andB => .aluReg .and .b
  | .andC => .aluReg .and .c
  | .andD => .aluReg .and .d
  | .andE => .aluReg .and .e
  | .andH => .aluReg .and .h
  | .andL => .aluReg .and .l
  | .andMhl => .aluMhl .and
  | .andA => .aluReg .and .a
  | .xorB => .aluReg .xor .b
  | .xorC => .aluReg .xor .c
  | .xorD => .aluReg .xor .d
  | .xorE => .aluReg .xor .e
  | .xorH => .aluReg .xor .h
  | .xorL => .aluReg .xor .l
  | .xorMhl => .aluMhl .xor
  | .xorA => .aluReg .xor .a
  | .orB => .aluReg .or .b
  | .orC => .aluReg .or .c
  | .orD => .aluReg .or .d
  | .orE => .aluReg .or .e
  | .orH => .aluReg .or .h
  | .orL => .aluReg .or .l
  | .orMhl => .aluMhl .or
  | .orA => .aluReg .or .a
  | .cpB => .aluReg .cp .b
  | .cpC => .aluReg .cp .c
  | .cpD => .aluReg .cp .d
  | .cpE => .aluReg .cp .e
  | .cpH => .aluReg .cp .h
  | .cpL => .aluReg .cp .l
  | .cpMhl => .aluMhl .cp
  | .cpA => .aluReg .cp .a
  | .retNz => .retCc .nz
  | .popBc => .pop .bc
  | .jpNzA16 a16 => .jpCc .nz a16
  | .jpA16 a16 => .jp a16
  | .callNzA16 a16 => .callCc .nz a16
  | .pushBc => .push .bc
  | .addAN8 n8 => .aluN8 .add n8
  | .rst00 => .rst 0
  | .retZ => .retCc .z
  | .ret => .ret
  | .jpZA16 a16 => .jpCc .z a16
  | .prefixCb opcode2 => .prefixCb opcode2
  | .callZA16 a16 => .callCc .z a16
  | .callA16 a16 => .call a16
  | .adcAN8 n8 => .aluN8 .adc n8
  | .rst08 => .rst 1
  | .retNc => .retCc .nc
  | .popDe => .pop .de
  | .jpNcA16 a16 => .jpCc .nc a16
  | .illegalD3 => .illegal 0xD3
  | .callNcA16 a16 => .callCc .nc a16
  | .pushDe => .push .de
  | .subN8 n8 => .aluN8 .sub n8
  | .rst10 => .rst 2
  | .retC => .retCc .c
  | .reti => .reti
  | .jpCA16 a16 => .jpCc .c a16
  | .illegalDB => .illegal 0xDB
  | .callCA16 a16 => .callCc .c a16
  | .illegalDD => .illegal 0xDD
  | .sbcAN8 n8 => .aluN8 .sbc n8
  | .rst18 => .rst 3
  | .ldhMa8A a8 => .ldhMa8A a8
  | .popHl => .pop .hl
  | .ldMcA => .ldMcA
  | .illegalE3 => .illegal 0xE3
  | .illegalE4 => .illegal 0xE4
  | .pushHl => .push .hl
  | .andN8 n8 => .aluN8 .and n8
  | .rst20 => .rst 4
  | .addSpE8 e8 => .addSpE8 e8
  | .jpHl => .jpHl
  | .ldMa16A a16 => .ldMa16A a16
  | .illegalEB => .illegal 0xEB
  | .illegalEC => .illegal 0xEC
  | .illegalED => .illegal 0xED
  | .xorN8 n8 => .aluN8 .xor n8
  | .rst28 => .rst 5
  | .ldhAMa8 a8 => .ldhAMa8 a8
  | .popAf => .pop .af
  | .ldAMc => .ldAMc
  | .di => .di
  | .illegalF4 => .illegal 0xF4
  | .pushAf => .push .af
  | .orN8 n8 => .aluN8 .or n8
  | .rst30 => .rst 6
  | .ldHlSpE8 e8 => .ldHlSpE8 e8
  | .ldSpHl => .ldSpHl
  | .ldAMa16 a16 => .ldAMa16 a16
  | .ei => .ei
  | .illegalFC => .illegal 0xFC
  | .illegalFD => .illegal 0xFD
  | .cpN8 n8 => .aluN8 .cp n8
  | .rst38 => .rst 7
  | .rlcB => .shiftReg .rlc .b
  | .rlcC => .shiftReg .rlc .c
  | .rlcD => .shiftReg .rlc .d
  | .rlcE => .shiftReg .rlc .e
  | .rlcH => .shiftReg .rlc .h
  | .rlcL => .shiftReg .rlc .l
  | .rlcMhl => .shiftMhl .rlc
  | .rlcA => .shiftReg .rlc .a
  | .rrcB => .shiftReg .rrc .b
  | .rrcC => .shiftReg .rrc .c
  | .rrcD => .shiftReg .rrc .d
  | .rrcE => .shiftReg .rrc .e
  | .rrcH => .shiftReg .rrc .h
  | .rrcL => .shiftReg .rrc .l
  | .rrcMhl => .shiftMhl .rrc
  | .rrcA => .shiftReg .rrc .a
  | .rlB => .shiftReg .rl .b
  | .rlC => .shiftReg .rl .c
  | .rlD => .shiftReg .rl .d
  | .rlE => .shiftReg .rl .e
  | .rlH => .shiftReg .rl .h
  | .rlL => .shiftReg .rl .l
  | .rlMhl => .shiftMhl .rl
  | .rlA => .shiftReg .rl .a
  | .rrB => .shiftReg .rr .b
  | .rrC => .shiftReg .rr .c
  | .rrD => .shiftReg .rr .d
  | .rrE => .shiftReg .rr .e
  | .rrH => .shiftReg .rr .h
  | .rrL => .shiftReg .rr .l
  | .rrMhl => .shiftMhl .rr
  | .rrA => .shiftReg .rr .a
  | .slaB => .shiftReg .sla .b
  | .slaC => .shiftReg .sla .c
  | .slaD => .shiftReg .sla .d
  | .slaE => .shiftReg .sla .e
  | .slaH => .shiftReg .sla .h
  | .slaL => .shiftReg .sla .l
  | .slaMhl => .shiftMhl .sla
  | .slaA => .shiftReg .sla .a
  | .sraB => .shiftReg .sra .b
  | .sraC => .shiftReg .sra .c
  | .sraD => .shiftReg .sra .d
  | .sraE => .shiftReg .sra .e
  | .sraH => .shiftReg .sra .h
  | .sraL => .shiftReg .sra .l
  | .sraMhl => .shiftMhl .sra
  | .sraA => .shiftReg .sra .a
  | .swapB => .shiftReg .swap .b
  | .swapC => .shiftReg .swap .c
  | .swapD => .shiftReg .swap .d
  | .swapE => .shiftReg .swap .e
  | .swapH => .shiftReg .swap .h
  | .swapL => .shiftReg .swap .l
  | .swapMhl => .shiftMhl .swap
  | .swapA => .shiftReg .swap .a
  | .srlB => .shiftReg .srl .b
  | .srlC => .shiftReg .srl .c
  | .srlD => .shiftReg .srl .d
  | .srlE => .shiftReg .srl .e
  | .srlH => .shiftReg .srl .h
  | .srlL => .shiftReg .srl .l
  | .srlMhl => .shiftMhl .srl
  | .srlA => .shiftReg .srl .a
  | .bit0B => .bitReg 0 .b
  | .bit0C => .bitReg 0 .c
  | .bit0D => .bitReg 0 .d
  | .bit0E => .bitReg 0 .e
  | .bit0H => .bitReg 0 .h
  | .bit0L => .bitReg 0 .l
  | .bit0Mhl => .bitMhl 0
  | .bit0A => .bitReg 0 .a
  | .bit1B => .bitReg 1 .b
  | .bit1C => .bitReg 1 .c
  | .bit1D => .bitReg 1 .d
  | .bit1E => .bitReg 1 .e
  | .bit1H => .bitReg 1 .h
  | .bit1L => .bitReg 1 .l
  | .bit1Mhl => .bitMhl 1
  | .bit1A => .bitReg 1 .a
  | .bit2B => .bitReg 2 .b
  | .bit2C => .bitReg 2 .c
  | .bit2D => .bitReg 2 .d
  | .bit2E => .bitReg 2 .e
  | .bit2H => .bitReg 2 .h
  | .bit2L => .bitReg 2 .l
  | .bit2Mhl => .bitMhl 2
  | .bit2A => .bitReg 2 .a
  | .bit3B => .bitReg 3 .b
  | .bit3C => .bitReg 3 .c
  | .bit3D => .bitReg 3 .d
  | .bit3E => .bitReg 3 .e
  | .bit3H => .bitReg 3 .h
  | .bit3L => .bitReg 3 .l
  | .bit3Mhl => .bitMhl 3
  | .bit3A => .bitReg 3 .a
  | .bit4B => .bitReg 4 .b
  | .bit4C => .bitReg 4 .c
  | .bit4D => .bitReg 4 .d
  | .bit4E => .bitReg 4 .e
  | .bit4H => .bitReg 4 .h
  | .bit4L => .bitReg 4 .l
  | .bit4Mhl => .bitMhl 4
  | .bit4A => .bitReg 4 .a
  | .bit5B => .bitReg 5 .b
  | .bit5C => .bitReg 5 .c
  | .bit5D => .bitReg 5 .d
  | .bit5E => .bitReg 5 .e
  | .bit5H => .bitReg 5 .h
  | .bit5L => .bitReg 5 .l
  | .bit5Mhl => .bitMhl 5
  | .bit5A => .bitReg 5 .a
  | .bit6B => .bitReg 6 .b
  | .bit6C => .bitReg 6 .c
  | .bit6D => .bitReg 6 .d
  | .bit6E => .bitReg 6 .e
  | .bit6H => .bitReg 6 .h
  | .bit6L => .bitReg 6 .l
  | .bit6Mhl => .bitMhl 6
  | .bit6A => .bitReg 6 .a
  | .bit7B => .bitReg 7 .b
  | .bit7C => .bitReg 7 .c
  | .bit7D => .bitReg 7 .d
  | .bit7E => .bitReg 7 .e
  | .bit7H => .bitReg 7 .h
  | .bit7L => .bitReg 7 .l
  | .bit7Mhl => .bitMhl 7
  | .bit7A => .bitReg 7 .a
  | .res0B => .resReg 0 .b
  | .res0C => .resReg 0 .c
  | .res0D => .resReg 0 .d
  | .res0E => .resReg 0 .e
  | .res0H => .resReg 0 .h
  | .res0L => .resReg 0 .l
  | .res0Mhl => .resMhl 0
  | .res0A => .resReg 0 .a
  | .res1B => .resReg 1 .b
  | .res1C => .resReg 1 .c
  | .res1D => .resReg 1 .d
  | .res1E => .resReg 1 .e
  | .res1H => .resReg 1 .h
  | .res1L => .resReg 1 .l
  | .res1Mhl => .resMhl 1
  | .res1A => .resReg 1 .a
  | .res2B => .resReg 2 .b
  | .res2C => .resReg 2 .c
  | .res2D => .resReg 2 .d
  | .res2E => .resReg 2 .e
  | .res2H => .resReg 2 .h
  | .res2L => .resReg 2 .l
  | .res2Mhl => .resMhl 2
  | .res2A => .resReg 2 .a
  | .res3B => .resReg 3 .b
  | .res3C => .resReg 3 .c
  | .res3D => .resReg 3 .d
  | .res3E => .resReg 3 .e
  | .res3H => .resReg 3 .h
  | .res3L => .resReg 3 .l
  | .res3Mhl => .resMhl 3
  | .res3A => .resReg 3 .a
  | .res4B => .resReg 4 .b
  | .res4C => .resReg 4 .c
  | .res4D => .resReg 4 .d
  | .res4E => .resReg 4 .e
  | .res4H => .resReg 4 .h
  | .res4L => .resReg 4 .l
  | .res4Mhl => .resMhl 4
  | .res4A => .resReg 4 .a
  | .res5B => .resReg 5 .b
  | .res5C => .resReg 5 .c
  | .res5D => .resReg 5 .d
  | .res5E => .resReg 5 .e
  | .res5H => .resReg 5 .h
  | .res5L => .resReg 5 .l
  | .res5Mhl => .resMhl 5
  | .res5A => .resReg 5 .a
  | .res6B => .resReg 6 .b
  | .res6C => .resReg 6 .c
  | .res6D => .resReg 6 .d
  | .res6E => .resReg 6 .e
  | .res6H => .resReg 6 .h
  | .res6L => .resReg 6 .l
  | .res6Mhl => .resMhl 6
  | .res6A => .resReg 6 .a
  | .res7B => .resReg 7 .b
  | .res7C => .resReg 7 .c
  | .res7D => .resReg 7 .d
  | .res7E => .resReg 7 .e
  | .res7H => .resReg 7 .h
  | .res7L => .resReg 7 .l
  | .res7Mhl => .resMhl 7
  | .res7A => .resReg 7 .a
  | .set0B => .setReg 0 .b
  | .set0C => .setReg 0 .c
  | .set0D => .setReg 0 .d
  | .set0E => .setReg 0 .e
  | .set0H => .setReg 0 .h
  | .set0L => .setReg 0 .l
  | .set0Mhl => .setMhl 0
  | .set0A => .setReg 0 .a
  | .set1B => .setReg 1 .b
  | .set1C => .setReg 1 .c
  | .set1D => .setReg 1 .d
  | .set1E => .setReg 1 .e
  | .set1H => .setReg 1 .h
  | .set1L => .setReg 1 .l
  | .set1Mhl => .setMhl 1
  | .set1A => .setReg 1 .a
  | .set2B => .setReg 2 .b
  | .set2C => .setReg 2 .c
  | .set2D => .setReg 2 .d
  | .set2E => .setReg 2 .e
  | .set2H => .setReg 2 .h
  | .set2L => .setReg 2 .l
  | .set2Mhl => .setMhl 2
  | .set2A => .setReg 2 .a
  | .set3B => .setReg 3 .b
  | .set3C => .setReg 3 .c
  | .set3D => .setReg 3 .d
  | .set3E => .setReg 3 .e
  | .set3H => .setReg 3 .h
  | .set3L => .setReg 3 .l
  | .set3Mhl => .setMhl 3
  | .set3A => .setReg 3 .a
  | .set4B => .setReg 4 .b
  | .set4C => .setReg 4 .c
  | .set4D => .setReg 4 .d
  | .set4E => .setReg 4 .e
  | .set4H => .setReg 4 .h
  | .set4L => .setReg 4 .l
  | .set4Mhl => .setMhl 4
  | .set4A => .setReg 4 .a
  | .set5B => .setReg 5 .b
  | .set5C => .setReg 5 .c
  | .set5D => .setReg 5 .d
  | .set5E => .setReg 5 .e
  | .set5H => .setReg 5 .h
  | .set5L => .setReg 5 .l
  | .set5Mhl => .setMhl 5
  | .set5A => .setReg 5 .a
  | .set6B => .setReg 6 .b
  | .set6C => .setReg 6 .c
  | .set6D => .setReg 6 .d
  | .set6E => .setReg 6 .e
  | .set6H => .setReg 6 .h
  | .set6L => .setReg 6 .l
  | .set6Mhl => .setMhl 6
  | .set6A => .setReg 6 .a
  | .set7B => .setReg 7 .b
  | .set7C => .setReg 7 .c
  | .set7D => .setReg 7 .d
  | .set7E => .setReg 7 .e
  | .set7H => .setReg 7 .h
  | .set7L => .setReg 7 .l
  | .set7Mhl => .setMhl 7
  | .set7A => .setReg 7 .a

/-! ## The decoder -/

/-- Why the decoder refuses a list of bytes. Every first byte has a row (eleven of them the illegal rows, whose
instruction raises `IllegalOpcode`: R156), so the only way is a list that ends too early. -/
inductive DecodeError where
  /-- There is no byte at all. -/
  | noBytes
  /-- The instruction with this first byte is longer than the list. -/
  | truncated (op : Byte)
  deriving DecidableEq, Repr

/-- Row 0x of the grid of first bytes (R162); a cell takes the two bytes that follow, low byte first. -/
def mainRow0 : Vector (Byte → Byte → Instr) 16 := #v[
  fun _ _ => .nop,
  fun lo hi => .ldBcN16 (wordOf hi lo),
  fun _ _ => .ldMbcA,
  fun _ _ => .incBc,
  fun _ _ => .incB,
  fun _ _ => .decB,
  fun lo _ => .ldBN8 lo,
  fun _ _ => .rlca,
  fun lo hi => .ldMa16Sp (wordOf hi lo),
  fun _ _ => .addHlBc,
  fun _ _ => .ldAMbc,
  fun _ _ => .decBc,
  fun _ _ => .incC,
  fun _ _ => .decC,
  fun lo _ => .ldCN8 lo,
  fun _ _ => .rrca]

/-- Row 1x of the grid of first bytes (R162); a cell takes the two bytes that follow, low byte first. -/
def mainRow1 : Vector (Byte → Byte → Instr) 16 := #v[
  fun lo _ => .stop lo,
  fun lo hi => .ldDeN16 (wordOf hi lo),
  fun _ _ => .ldMdeA,
  fun _ _ => .incDe,
  fun _ _ => .incD,
  fun _ _ => .decD,
  fun lo _ => .ldDN8 lo,
  fun _ _ => .rla,
  fun lo _ => .jrE8 lo,
  fun _ _ => .addHlDe,
  fun _ _ => .ldAMde,
  fun _ _ => .decDe,
  fun _ _ => .incE,
  fun _ _ => .decE,
  fun lo _ => .ldEN8 lo,
  fun _ _ => .rra]

/-- Row 2x of the grid of first bytes (R162); a cell takes the two bytes that follow, low byte first. -/
def mainRow2 : Vector (Byte → Byte → Instr) 16 := #v[
  fun lo _ => .jrNzE8 lo,
  fun lo hi => .ldHlN16 (wordOf hi lo),
  fun _ _ => .ldMhliA,
  fun _ _ => .incHl,
  fun _ _ => .incH,
  fun _ _ => .decH,
  fun lo _ => .ldHN8 lo,
  fun _ _ => .daa,
  fun lo _ => .jrZE8 lo,
  fun _ _ => .addHlHl,
  fun _ _ => .ldAMhli,
  fun _ _ => .decHl,
  fun _ _ => .incL,
  fun _ _ => .decL,
  fun lo _ => .ldLN8 lo,
  fun _ _ => .cpl]

/-- Row 3x of the grid of first bytes (R162); a cell takes the two bytes that follow, low byte first. -/
def mainRow3 : Vector (Byte → Byte → Instr) 16 := #v[
  fun lo _ => .jrNcE8 lo,
  fun lo hi => .ldSpN16 (wordOf hi lo),
  fun _ _ => .ldMhldA,
  fun _ _ => .incSp,
  fun _ _ => .incMhl,
  fun _ _ => .decMhl,
  fun lo _ => .ldMhlN8 lo,
  fun _ _ => .scf,
  fun lo _ => .jrCE8 lo,
  fun _ _ => .addHlSp,
  fun _ _ => .ldAMhld,
  fun _ _ => .decSp,
  fun _ _ => .incA,
  fun _ _ => .decA,
  fun lo _ => .ldAN8 lo,
  fun _ _ => .ccf]

/-- Row 4x of the grid of first bytes (R162); a cell takes the two bytes that follow, low byte first. -/
def mainRow4 : Vector (Byte → Byte → Instr) 16 := #v[
  fun _ _ => .ldBB,
  fun _ _ => .ldBC,
  fun _ _ => .ldBD,
  fun _ _ => .ldBE,
  fun _ _ => .ldBH,
  fun _ _ => .ldBL,
  fun _ _ => .ldBMhl,
  fun _ _ => .ldBA,
  fun _ _ => .ldCB,
  fun _ _ => .ldCC,
  fun _ _ => .ldCD,
  fun _ _ => .ldCE,
  fun _ _ => .ldCH,
  fun _ _ => .ldCL,
  fun _ _ => .ldCMhl,
  fun _ _ => .ldCA]

/-- Row 5x of the grid of first bytes (R162); a cell takes the two bytes that follow, low byte first. -/
def mainRow5 : Vector (Byte → Byte → Instr) 16 := #v[
  fun _ _ => .ldDB,
  fun _ _ => .ldDC,
  fun _ _ => .ldDD,
  fun _ _ => .ldDE,
  fun _ _ => .ldDH,
  fun _ _ => .ldDL,
  fun _ _ => .ldDMhl,
  fun _ _ => .ldDA,
  fun _ _ => .ldEB,
  fun _ _ => .ldEC,
  fun _ _ => .ldED,
  fun _ _ => .ldEE,
  fun _ _ => .ldEH,
  fun _ _ => .ldEL,
  fun _ _ => .ldEMhl,
  fun _ _ => .ldEA]

/-- Row 6x of the grid of first bytes (R162); a cell takes the two bytes that follow, low byte first. -/
def mainRow6 : Vector (Byte → Byte → Instr) 16 := #v[
  fun _ _ => .ldHB,
  fun _ _ => .ldHC,
  fun _ _ => .ldHD,
  fun _ _ => .ldHE,
  fun _ _ => .ldHH,
  fun _ _ => .ldHL,
  fun _ _ => .ldHMhl,
  fun _ _ => .ldHA,
  fun _ _ => .ldLB,
  fun _ _ => .ldLC,
  fun _ _ => .ldLD,
  fun _ _ => .ldLE,
  fun _ _ => .ldLH,
  fun _ _ => .ldLL,
  fun _ _ => .ldLMhl,
  fun _ _ => .ldLA]

/-- Row 7x of the grid of first bytes (R162); a cell takes the two bytes that follow, low byte first. -/
def mainRow7 : Vector (Byte → Byte → Instr) 16 := #v[
  fun _ _ => .ldMhlB,
  fun _ _ => .ldMhlC,
  fun _ _ => .ldMhlD,
  fun _ _ => .ldMhlE,
  fun _ _ => .ldMhlH,
  fun _ _ => .ldMhlL,
  fun _ _ => .halt,
  fun _ _ => .ldMhlA,
  fun _ _ => .ldAB,
  fun _ _ => .ldAC,
  fun _ _ => .ldAD,
  fun _ _ => .ldAE,
  fun _ _ => .ldAH,
  fun _ _ => .ldAL,
  fun _ _ => .ldAMhl,
  fun _ _ => .ldAA]

/-- Row 8x of the grid of first bytes (R162); a cell takes the two bytes that follow, low byte first. -/
def mainRow8 : Vector (Byte → Byte → Instr) 16 := #v[
  fun _ _ => .addAB,
  fun _ _ => .addAC,
  fun _ _ => .addAD,
  fun _ _ => .addAE,
  fun _ _ => .addAH,
  fun _ _ => .addAL,
  fun _ _ => .addAMhl,
  fun _ _ => .addAA,
  fun _ _ => .adcAB,
  fun _ _ => .adcAC,
  fun _ _ => .adcAD,
  fun _ _ => .adcAE,
  fun _ _ => .adcAH,
  fun _ _ => .adcAL,
  fun _ _ => .adcAMhl,
  fun _ _ => .adcAA]

/-- Row 9x of the grid of first bytes (R162); a cell takes the two bytes that follow, low byte first. -/
def mainRow9 : Vector (Byte → Byte → Instr) 16 := #v[
  fun _ _ => .subB,
  fun _ _ => .subC,
  fun _ _ => .subD,
  fun _ _ => .subE,
  fun _ _ => .subH,
  fun _ _ => .subL,
  fun _ _ => .subMhl,
  fun _ _ => .subA,
  fun _ _ => .sbcAB,
  fun _ _ => .sbcAC,
  fun _ _ => .sbcAD,
  fun _ _ => .sbcAE,
  fun _ _ => .sbcAH,
  fun _ _ => .sbcAL,
  fun _ _ => .sbcAMhl,
  fun _ _ => .sbcAA]

/-- Row Ax of the grid of first bytes (R162); a cell takes the two bytes that follow, low byte first. -/
def mainRowA : Vector (Byte → Byte → Instr) 16 := #v[
  fun _ _ => .andB,
  fun _ _ => .andC,
  fun _ _ => .andD,
  fun _ _ => .andE,
  fun _ _ => .andH,
  fun _ _ => .andL,
  fun _ _ => .andMhl,
  fun _ _ => .andA,
  fun _ _ => .xorB,
  fun _ _ => .xorC,
  fun _ _ => .xorD,
  fun _ _ => .xorE,
  fun _ _ => .xorH,
  fun _ _ => .xorL,
  fun _ _ => .xorMhl,
  fun _ _ => .xorA]

/-- Row Bx of the grid of first bytes (R162); a cell takes the two bytes that follow, low byte first. -/
def mainRowB : Vector (Byte → Byte → Instr) 16 := #v[
  fun _ _ => .orB,
  fun _ _ => .orC,
  fun _ _ => .orD,
  fun _ _ => .orE,
  fun _ _ => .orH,
  fun _ _ => .orL,
  fun _ _ => .orMhl,
  fun _ _ => .orA,
  fun _ _ => .cpB,
  fun _ _ => .cpC,
  fun _ _ => .cpD,
  fun _ _ => .cpE,
  fun _ _ => .cpH,
  fun _ _ => .cpL,
  fun _ _ => .cpMhl,
  fun _ _ => .cpA]

/-- Row Cx of the grid of first bytes (R162); a cell takes the two bytes that follow, low byte first. -/
def mainRowC : Vector (Byte → Byte → Instr) 16 := #v[
  fun _ _ => .retNz,
  fun _ _ => .popBc,
  fun lo hi => .jpNzA16 (wordOf hi lo),
  fun lo hi => .jpA16 (wordOf hi lo),
  fun lo hi => .callNzA16 (wordOf hi lo),
  fun _ _ => .pushBc,
  fun lo _ => .addAN8 lo,
  fun _ _ => .rst00,
  fun _ _ => .retZ,
  fun _ _ => .ret,
  fun lo hi => .jpZA16 (wordOf hi lo),
  fun lo _ => .prefixCb lo,
  fun lo hi => .callZA16 (wordOf hi lo),
  fun lo hi => .callA16 (wordOf hi lo),
  fun lo _ => .adcAN8 lo,
  fun _ _ => .rst08]

/-- Row Dx of the grid of first bytes (R162); a cell takes the two bytes that follow, low byte first. -/
def mainRowD : Vector (Byte → Byte → Instr) 16 := #v[
  fun _ _ => .retNc,
  fun _ _ => .popDe,
  fun lo hi => .jpNcA16 (wordOf hi lo),
  fun _ _ => .illegalD3,
  fun lo hi => .callNcA16 (wordOf hi lo),
  fun _ _ => .pushDe,
  fun lo _ => .subN8 lo,
  fun _ _ => .rst10,
  fun _ _ => .retC,
  fun _ _ => .reti,
  fun lo hi => .jpCA16 (wordOf hi lo),
  fun _ _ => .illegalDB,
  fun lo hi => .callCA16 (wordOf hi lo),
  fun _ _ => .illegalDD,
  fun lo _ => .sbcAN8 lo,
  fun _ _ => .rst18]

/-- Row Ex of the grid of first bytes (R162); a cell takes the two bytes that follow, low byte first. -/
def mainRowE : Vector (Byte → Byte → Instr) 16 := #v[
  fun lo _ => .ldhMa8A lo,
  fun _ _ => .popHl,
  fun _ _ => .ldMcA,
  fun _ _ => .illegalE3,
  fun _ _ => .illegalE4,
  fun _ _ => .pushHl,
  fun lo _ => .andN8 lo,
  fun _ _ => .rst20,
  fun lo _ => .addSpE8 lo,
  fun _ _ => .jpHl,
  fun lo hi => .ldMa16A (wordOf hi lo),
  fun _ _ => .illegalEB,
  fun _ _ => .illegalEC,
  fun _ _ => .illegalED,
  fun lo _ => .xorN8 lo,
  fun _ _ => .rst28]

/-- Row Fx of the grid of first bytes (R162); a cell takes the two bytes that follow, low byte first. -/
def mainRowF : Vector (Byte → Byte → Instr) 16 := #v[
  fun lo _ => .ldhAMa8 lo,
  fun _ _ => .popAf,
  fun _ _ => .ldAMc,
  fun _ _ => .di,
  fun _ _ => .illegalF4,
  fun _ _ => .pushAf,
  fun lo _ => .orN8 lo,
  fun _ _ => .rst30,
  fun lo _ => .ldHlSpE8 lo,
  fun _ _ => .ldSpHl,
  fun lo hi => .ldAMa16 (wordOf hi lo),
  fun _ _ => .ei,
  fun _ _ => .illegalFC,
  fun _ _ => .illegalFD,
  fun lo _ => .cpN8 lo,
  fun _ _ => .rst38]

/-- Row 0x of the grid of second bytes after 0xCB (R164). -/
def cbRow0 : Vector Instr 16 := #v[
  .rlcB, .rlcC, .rlcD, .rlcE, .rlcH, .rlcL, .rlcMhl, .rlcA,
  .rrcB, .rrcC, .rrcD, .rrcE, .rrcH, .rrcL, .rrcMhl, .rrcA]

/-- Row 1x of the grid of second bytes after 0xCB (R164). -/
def cbRow1 : Vector Instr 16 := #v[
  .rlB, .rlC, .rlD, .rlE, .rlH, .rlL, .rlMhl, .rlA,
  .rrB, .rrC, .rrD, .rrE, .rrH, .rrL, .rrMhl, .rrA]

/-- Row 2x of the grid of second bytes after 0xCB (R164). -/
def cbRow2 : Vector Instr 16 := #v[
  .slaB, .slaC, .slaD, .slaE, .slaH, .slaL, .slaMhl, .slaA,
  .sraB, .sraC, .sraD, .sraE, .sraH, .sraL, .sraMhl, .sraA]

/-- Row 3x of the grid of second bytes after 0xCB (R164). -/
def cbRow3 : Vector Instr 16 := #v[
  .swapB, .swapC, .swapD, .swapE, .swapH, .swapL, .swapMhl, .swapA,
  .srlB, .srlC, .srlD, .srlE, .srlH, .srlL, .srlMhl, .srlA]

/-- Row 4x of the grid of second bytes after 0xCB (R164). -/
def cbRow4 : Vector Instr 16 := #v[
  .bit0B, .bit0C, .bit0D, .bit0E, .bit0H, .bit0L, .bit0Mhl, .bit0A,
  .bit1B, .bit1C, .bit1D, .bit1E, .bit1H, .bit1L, .bit1Mhl, .bit1A]

/-- Row 5x of the grid of second bytes after 0xCB (R164). -/
def cbRow5 : Vector Instr 16 := #v[
  .bit2B, .bit2C, .bit2D, .bit2E, .bit2H, .bit2L, .bit2Mhl, .bit2A,
  .bit3B, .bit3C, .bit3D, .bit3E, .bit3H, .bit3L, .bit3Mhl, .bit3A]

/-- Row 6x of the grid of second bytes after 0xCB (R164). -/
def cbRow6 : Vector Instr 16 := #v[
  .bit4B, .bit4C, .bit4D, .bit4E, .bit4H, .bit4L, .bit4Mhl, .bit4A,
  .bit5B, .bit5C, .bit5D, .bit5E, .bit5H, .bit5L, .bit5Mhl, .bit5A]

/-- Row 7x of the grid of second bytes after 0xCB (R164). -/
def cbRow7 : Vector Instr 16 := #v[
  .bit6B, .bit6C, .bit6D, .bit6E, .bit6H, .bit6L, .bit6Mhl, .bit6A,
  .bit7B, .bit7C, .bit7D, .bit7E, .bit7H, .bit7L, .bit7Mhl, .bit7A]

/-- Row 8x of the grid of second bytes after 0xCB (R164). -/
def cbRow8 : Vector Instr 16 := #v[
  .res0B, .res0C, .res0D, .res0E, .res0H, .res0L, .res0Mhl, .res0A,
  .res1B, .res1C, .res1D, .res1E, .res1H, .res1L, .res1Mhl, .res1A]

/-- Row 9x of the grid of second bytes after 0xCB (R164). -/
def cbRow9 : Vector Instr 16 := #v[
  .res2B, .res2C, .res2D, .res2E, .res2H, .res2L, .res2Mhl, .res2A,
  .res3B, .res3C, .res3D, .res3E, .res3H, .res3L, .res3Mhl, .res3A]

/-- Row Ax of the grid of second bytes after 0xCB (R164). -/
def cbRowA : Vector Instr 16 := #v[
  .res4B, .res4C, .res4D, .res4E, .res4H, .res4L, .res4Mhl, .res4A,
  .res5B, .res5C, .res5D, .res5E, .res5H, .res5L, .res5Mhl, .res5A]

/-- Row Bx of the grid of second bytes after 0xCB (R164). -/
def cbRowB : Vector Instr 16 := #v[
  .res6B, .res6C, .res6D, .res6E, .res6H, .res6L, .res6Mhl, .res6A,
  .res7B, .res7C, .res7D, .res7E, .res7H, .res7L, .res7Mhl, .res7A]

/-- Row Cx of the grid of second bytes after 0xCB (R164). -/
def cbRowC : Vector Instr 16 := #v[
  .set0B, .set0C, .set0D, .set0E, .set0H, .set0L, .set0Mhl, .set0A,
  .set1B, .set1C, .set1D, .set1E, .set1H, .set1L, .set1Mhl, .set1A]

/-- Row Dx of the grid of second bytes after 0xCB (R164). -/
def cbRowD : Vector Instr 16 := #v[
  .set2B, .set2C, .set2D, .set2E, .set2H, .set2L, .set2Mhl, .set2A,
  .set3B, .set3C, .set3D, .set3E, .set3H, .set3L, .set3Mhl, .set3A]

/-- Row Ex of the grid of second bytes after 0xCB (R164). -/
def cbRowE : Vector Instr 16 := #v[
  .set4B, .set4C, .set4D, .set4E, .set4H, .set4L, .set4Mhl, .set4A,
  .set5B, .set5C, .set5D, .set5E, .set5H, .set5L, .set5Mhl, .set5A]

/-- Row Fx of the grid of second bytes after 0xCB (R164). -/
def cbRowF : Vector Instr 16 := #v[
  .set6B, .set6C, .set6D, .set6E, .set6H, .set6L, .set6Mhl, .set6A,
  .set7B, .set7C, .set7D, .set7E, .set7H, .set7L, .set7Mhl, .set7A]

/-- The grid of first bytes (R162). -/
def mainGrid : Vector (Vector (Byte → Byte → Instr) 16) 16 := #v[
  mainRow0, mainRow1, mainRow2, mainRow3, mainRow4, mainRow5, mainRow6, mainRow7,
  mainRow8, mainRow9, mainRowA, mainRowB, mainRowC, mainRowD, mainRowE, mainRowF]

/-- The grid of second bytes after 0xCB (R164). -/
def cbGrid : Vector (Vector Instr 16) 16 := #v[
  cbRow0, cbRow1, cbRow2, cbRow3, cbRow4, cbRow5, cbRow6, cbRow7,
  cbRow8, cbRow9, cbRowA, cbRowB, cbRowC, cbRowD, cbRowE, cbRowF]

/-- A cell of a 16 by 16 grid: row `op[7:4]`, column `op[3:0]`. -/
def gridCell {α : Type} (g : Vector (Vector α 16) 16) (op : Byte) : α :=
  (g[(op.extractLsb' 4 4).toNat]'(op.extractLsb' 4 4).isLt)[(op.extractLsb' 0 4).toNat]'(op.extractLsb' 0 4).isLt

/-- The instruction of a second byte after 0xCB (R155, R164). -/
def decodeCb (opcode2 : Byte) : Instr := gridCell cbGrid opcode2

/-- The instruction of a first byte and the two bytes after it (R142); bytes beyond its length are ignored. -/
def decodeBytes (op byte1 byte2 : Byte) : Instr :=
  if op = 0xCB then decodeCb byte1 else gridCell mainGrid op byte1 byte2

/-- Lengths in bytes by first byte, row by row of the grid of R162 (R163; an illegal byte is the single byte, R316). -/
def lengthGrid : Vector (Vector Nat 16) 16 := #v[
  #v[1, 3, 1, 1, 1, 1, 2, 1, 3, 1, 1, 1, 1, 1, 2, 1],
  #v[2, 3, 1, 1, 1, 1, 2, 1, 2, 1, 1, 1, 1, 1, 2, 1],
  #v[2, 3, 1, 1, 1, 1, 2, 1, 2, 1, 1, 1, 1, 1, 2, 1],
  #v[2, 3, 1, 1, 1, 1, 2, 1, 2, 1, 1, 1, 1, 1, 2, 1],
  #v[1, 1, 1, 1, 1, 1, 1, 1, 1, 1, 1, 1, 1, 1, 1, 1],
  #v[1, 1, 1, 1, 1, 1, 1, 1, 1, 1, 1, 1, 1, 1, 1, 1],
  #v[1, 1, 1, 1, 1, 1, 1, 1, 1, 1, 1, 1, 1, 1, 1, 1],
  #v[1, 1, 1, 1, 1, 1, 1, 1, 1, 1, 1, 1, 1, 1, 1, 1],
  #v[1, 1, 1, 1, 1, 1, 1, 1, 1, 1, 1, 1, 1, 1, 1, 1],
  #v[1, 1, 1, 1, 1, 1, 1, 1, 1, 1, 1, 1, 1, 1, 1, 1],
  #v[1, 1, 1, 1, 1, 1, 1, 1, 1, 1, 1, 1, 1, 1, 1, 1],
  #v[1, 1, 1, 1, 1, 1, 1, 1, 1, 1, 1, 1, 1, 1, 1, 1],
  #v[1, 1, 3, 3, 3, 1, 2, 1, 1, 1, 3, 2, 3, 3, 2, 1],
  #v[1, 1, 3, 1, 3, 1, 2, 1, 1, 1, 3, 1, 3, 1, 2, 1],
  #v[2, 1, 1, 1, 1, 1, 2, 1, 2, 1, 3, 1, 1, 1, 2, 1],
  #v[2, 1, 1, 1, 1, 1, 2, 1, 2, 1, 3, 1, 1, 1, 2, 1]]

/-- The length of the instruction with first byte `op` (R158: a function of the first byte alone). -/
def lengthOf (op : Byte) : Nat := gridCell lengthGrid op

/-- The decoder on a list of bytes, first byte first: the instruction and the bytes after it. Total. -/
def decode (bytes : List Byte) : Except DecodeError (Instr × List Byte) :=
  match bytes with
  | [] => .error .noBytes
  | op :: rest =>
    if lengthOf op = 1 then .ok (decodeBytes op 0 0, rest)
    else if lengthOf op = 2 then
      match rest with
      | byte1 :: rest => .ok (decodeBytes op byte1 0, rest)
      | [] => .error (.truncated op)
    else
      match rest with
      | byte1 :: byte2 :: rest => .ok (decodeBytes op byte1 byte2, rest)
      | _ => .error (.truncated op)

/-! ## The encoder -/

/-- An opcode byte from its fields `x = op[7:6]`, `y = op[5:3]`, `z = op[2:0]` (R141). -/
def opXYZ (x : BitVec 2) (y z : BitVec 3) : Byte := x ++ y ++ z

/-- An opcode byte from its fields `x`, `p = op[5:4]`, `q = op[3]`, `z` (R141). -/
def opXPQZ (x p : BitVec 2) (q : BitVec 1) (z : BitVec 3) : Byte := x ++ p ++ q ++ z

/-- A 16-bit operand in the instruction stream: low byte, then high byte (R140, R150). -/
def operand16 (w : Word) : List Byte := [loByte w, hiByte w]

/-- The bytes of each form, from the bit patterns of R151 (x = 0), R152 (x = 1), R153 (x = 2), R154 (x = 3) and
R155 (after 0xCB). The bare prefix is its two bytes (R315). -/
def Form.encode : Form → List Byte
  | .nop => [opXYZ 0 0 0]
  | .ldMa16Sp a16 => opXYZ 0 1 0 :: operand16 a16
  | .stop pad => [opXYZ 0 2 0, pad]
  | .jr e8 => [opXYZ 0 3 0, e8]
  | .jrCc cc e8 => [opXYZ 0 (1#1 ++ cc.code) 0, e8]
  | .ldR16N16 p n16 => opXPQZ 0 p.code 0 1 :: operand16 n16
  | .addHlR16 p => [opXPQZ 0 p.code 1 1]
  | .ldMbcA => [opXPQZ 0 0 0 2]
  | .ldMdeA => [opXPQZ 0 1 0 2]
  | .ldMhliA => [opXPQZ 0 2 0 2]
  | .ldMhldA => [opXPQZ 0 3 0 2]
  | .ldAMbc => [opXPQZ 0 0 1 2]
  | .ldAMde => [opXPQZ 0 1 1 2]
  | .ldAMhli => [opXPQZ 0 2 1 2]
  | .ldAMhld => [opXPQZ 0 3 1 2]
  | .incR16 p => [opXPQZ 0 p.code 0 3]
  | .decR16 p => [opXPQZ 0 p.code 1 3]
  | .incReg r => [opXYZ 0 r.code 4]
  | .incMhl => [opXYZ 0 6 4]
  | .decReg r => [opXYZ 0 r.code 5]
  | .decMhl => [opXYZ 0 6 5]
  | .ldRegN8 dst n8 => [opXYZ 0 dst.code 6, n8]
  | .ldMhlN8 n8 => [opXYZ 0 6 6, n8]
  | .rlca => [opXYZ 0 0 7]
  | .rrca => [opXYZ 0 1 7]
  | .rla => [opXYZ 0 2 7]
  | .rra => [opXYZ 0 3 7]
  | .daa => [opXYZ 0 4 7]
  | .cpl => [opXYZ 0 5 7]
  | .scf => [opXYZ 0 6 7]
  | .ccf => [opXYZ 0 7 7]
  | .ldRegReg dst src => [opXYZ 1 dst.code src.code]
  | .ldRegMhl dst => [opXYZ 1 dst.code 6]
  | .ldMhlReg src => [opXYZ 1 6 src.code]
  | .halt => [opXYZ 1 6 6]
  | .aluReg op r => [opXYZ 2 op.code r.code]
  | .aluMhl op => [opXYZ 2 op.code 6]
  | .retCc cc => [opXYZ 3 (0#1 ++ cc.code) 0]
  | .ldhMa8A a8 => [opXYZ 3 4 0, a8]
  | .addSpE8 e8 => [opXYZ 3 5 0, e8]
  | .ldhAMa8 a8 => [opXYZ 3 6 0, a8]
  | .ldHlSpE8 e8 => [opXYZ 3 7 0, e8]
  | .pop p => [opXPQZ 3 p.code 0 1]
  | .ret => [opXPQZ 3 0 1 1]
  | .reti => [opXPQZ 3 1 1 1]
  | .jpHl => [opXPQZ 3 2 1 1]
  | .ldSpHl => [opXPQZ 3 3 1 1]
  | .jpCc cc a16 => opXYZ 3 (0#1 ++ cc.code) 2 :: operand16 a16
  | .ldMcA => [opXYZ 3 4 2]
  | .ldMa16A a16 => opXYZ 3 5 2 :: operand16 a16
  | .ldAMc => [opXYZ 3 6 2]
  | .ldAMa16 a16 => opXYZ 3 7 2 :: operand16 a16
  | .jp a16 => opXYZ 3 0 3 :: operand16 a16
  | .di => [opXYZ 3 6 3]
  | .ei => [opXYZ 3 7 3]
  | .callCc cc a16 => opXYZ 3 (0#1 ++ cc.code) 4 :: operand16 a16
  | .push p => [opXPQZ 3 p.code 0 5]
  | .call a16 => opXPQZ 3 0 1 5 :: operand16 a16
  | .aluN8 op n8 => [opXYZ 3 op.code 6, n8]
  | .rst t => [opXYZ 3 t 7]
  | .prefixCb opcode2 => [opXYZ 3 1 3, opcode2]
  | .shiftReg op r => [opXYZ 3 1 3, opXYZ 0 op.code r.code]
  | .shiftMhl op => [opXYZ 3 1 3, opXYZ 0 op.code 6]
  | .bitReg bit r => [opXYZ 3 1 3, opXYZ 1 bit r.code]
  | .bitMhl bit => [opXYZ 3 1 3, opXYZ 1 bit 6]
  | .resReg bit r => [opXYZ 3 1 3, opXYZ 2 bit r.code]
  | .resMhl bit => [opXYZ 3 1 3, opXYZ 2 bit 6]
  | .setReg bit r => [opXYZ 3 1 3, opXYZ 3 bit r.code]
  | .setMhl bit => [opXYZ 3 1 3, opXYZ 3 bit 6]
  | .illegal op => [op]

/-- The bytes of an instruction, first byte first. -/
def encode (i : Instr) : List Byte := i.form.encode

/-! ## Words numbered as the opcode table numbers them -/

/-- The first three bytes of an instruction whose bits are `w`, all bits above `nbits` zero. The table numbers its
one-byte rows from bit 0 of the byte, and its 0xCB rows "over its first two bytes in fetch order (`0xCBNN`)" (R161):
the prefix in bits 15..8 and the second byte in bits 7..0. Any other word is read with its first byte in bits 7..0.
Log entry 4. -/
def tableBytes (nbits w : Nat) : List Byte :=
  let w := w % 2 ^ nbits
  if nbits = 16 ∧ w / 256 = 0xCB then [0xCB, BitVec.ofNat 8 w, 0]
  else [BitVec.ofNat 8 w, BitVec.ofNat 8 (w / 256), BitVec.ofNat 8 (w / 65536)]

/-- The instruction the decoder reads from an instruction whose bits are `w` (the host's interface). -/
def decodeTableWord (nbits w : Nat) : Option Instr :=
  match decode (tableBytes nbits w) with
  | .ok (i, _) => some i
  | .error _ => none

end Sys2Proof
end

