-- ==== Sys2Proof/Machine/State.lean ====
section
/-! DEFINITION. The state of the block as plain data: everything spec/10_state.md R20 to R44 gives the machine, the
parameters R10 gives it as arguments, and the model's own counter of unspecified reads. `State.reset` is the state
right after reset with `ENTRY = PostBoot` (R44, R451, R452; log entry 5). -/

namespace Sys2Proof.Machine

/-- A byte-addressed store: (address, byte) pairs, addresses strictly rising. What an unlisted address reads as, and
the canonical form, are in Machine/Memory.lean. -/
abbrev Memory := List Host.Cell

/-- The register file (R20): eight 8-bit registers, SP and PC. `F` is a whole byte; its low nibble is kept 0 by every
write (R23). -/
structure Regs where
  a : Byte
  f : Byte
  b : Byte
  c : Byte
  d : Byte
  e : Byte
  h : Byte
  l : Byte
  sp : Word
  pc : Word
  deriving DecidableEq, Repr

/-- The record of an `IllegalOpcode` (R35, R326): the byte and its address. -/
structure IllegalRecord where
  op : Byte
  pc0 : Word
  deriving DecidableEq, Repr

/-- The CPU's control state (R30 to R35). `faulted` is the bit and its record in one. -/
structure Control where
  ime : Bool
  imeSched : Bool
  halted : Bool
  stopped : Bool
  haltBug : Bool
  faulted : Option IllegalRecord
  deriving DecidableEq, Repr

/-- `mbc_kind` (R40, R92). -/
inductive MbcKind where
  | none | mbc1
  deriving DecidableEq, Repr

/-- The cartridge (R40, R90 to R104): `CART_ROM` and `cart_ram` by byte offset, the bank counts the header gives, and
the write-only bank-controller registers. -/
structure Cartridge where
  rom : Memory
  nbanks : Nat
  ram : Memory
  ramBanks : Nat
  kind : MbcKind
  ramEnable : Bool
  bankLo : BitVec 5
  bankHi : BitVec 2
  bankMode : Bool
  deriving DecidableEq, Repr

/-- The Timer's hidden accumulators (R41); DIV, TIMA, TMA and TAC live in `mem`. -/
structure Timer where
  divAcc : Nat
  timaAcc : Nat
  deriving DecidableEq, Repr

/-- `ppu_mode` (R41, R362). -/
inductive PpuMode where
  /-- 0 -/
  | hblank
  /-- 1 -/
  | vblank
  /-- 2 -/
  | oamSearch
  /-- 3 -/
  | transfer
  deriving DecidableEq, Repr

/-- A 2-bit shade, 0 lightest (R365). -/
abbrev Shade := BitVec 2

/-- The PPU's hidden state (R41), but for `fifo`, which is empty between steps (R381; log entry 18). `framebuffer` has 144 rows of 160 shades; `frames` counts the calls of `FrameDone`,
the moments at which the frame sink may copy it (R392). -/
structure Ppu where
  mode : PpuMode
  acc : Nat
  spriteList : List Nat
  winLine : Nat
  offAcc : Nat
  framebuffer : List (List Shade)
  frames : Nat
  deriving DecidableEq, Repr

/-- What all four sound channels have (R400): `en`, the generator's `timer`, the length counter `len`. -/
structure Channel where
  en : Bool
  timer : Nat
  len : Nat
  deriving DecidableEq, Repr

/-- The volume envelope of channels 1, 2 and 4 (R400): `vol`, `env_timer`, `env_on`. -/
structure Envelope where
  vol : BitVec 4
  timer : Nat
  on : Bool
  deriving DecidableEq, Repr

/-- The frequency sweep of channel 1 (R400): `shadow`, `sw_timer`, `sw_on`. -/
structure Sweep where
  shadow : BitVec 11
  timer : Nat
  on : Bool
  deriving DecidableEq, Repr

/-- One stereo pair pushed to the sample sink (R430), exactly: each side is the rational `n / 480`
(480 = 15 * 4 * 8: the scales of R408 and R430). DESIGN CHOICE, log entry 16. -/
structure Sample where
  left : Int
  right : Int
  deriving DecidableEq, Repr

/-- The APU's hidden state (R41, R400). `samples` is what has been pushed to the sink, newest first (R439). -/
structure Apu where
  ch1 : Channel
  ch2 : Channel
  ch3 : Channel
  ch4 : Channel
  env1 : Envelope
  env2 : Envelope
  env4 : Envelope
  duty1 : BitVec 3
  duty2 : BitVec 3
  sweep : Sweep
  pos3 : BitVec 5
  lfsr : BitVec 15
  fsAcc : Nat
  fsStep : BitVec 3
  dsAcc : Nat
  samples : List Sample
  deriving DecidableEq, Repr

/-- The parameters R10 leaves open that no step changes: `ENTRY` (of the reset the machine came from: what memory that
nothing has written holds follows from it, R44), `HALT_BUG` and `APU_DOWNSAMPLE_CYCLES`. -/
structure Params where
  entry : Entry
  haltBug : Bool
  apuDownsample : Nat
  deriving DecidableEq, Repr

/-- Everything outside the CPU: the Bus's stores, the cartridge, the peripherals, the joypad buttons the host owns (R41,
R345), the parameters. `draws` counts the unspecified reads answered so far (log entry 1). The peripherals and the Bus
act on the board alone, so none of them can touch the CPU. -/
structure Board where
  mem : Memory
  bootVisible : Bool
  bootRom : Memory
  cart : Cartridge
  timer : Timer
  ppu : Ppu
  apu : Apu
  buttons : Byte
  params : Params
  draws : Nat
  deriving DecidableEq, Repr

/-- The whole state: the CPU's registers, control bits and `clock` (R38), the board, and `hostMoves`, the host's button
schedule (R10, D28): one entry for each coming step, the `SetButtons` moves made before it in their order (R465). -/
structure State where
  regs : Regs
  ctl : Control
  clock : Nat
  board : Board
  hostMoves : List (List Byte)
  deriving DecidableEq, Repr

/-- Why the machine stops. Each reason carries the state it stops in. -/
inductive Fault where
  /-- `IllegalOpcode(op, pc0)`: raised by the eleven illegal rows (R316, R326), and answered again by every later step
  of the faulted state (R35). `frozen` is that state: `faulted` set, everything else as before. Safe: the spec asks for
  a fault outcome, never a final state. -/
  | illegalOpcode (op : Byte) (pc0 : Word) (frozen : State)
  /-- Raised by a step of a machine that is `stopped` and whose host schedule is empty: no system step exists and
  nothing can end the stop (R33, R312). Safe: a stuck state proves nothing. -/
  | stuckInStop (frozen : State)
  deriving DecidableEq, Repr

/-- Why an instruction has no meaning. No arm of `exec` answers with one. -/
inductive Refusal where
  /-- An instruction that has no meaning yet. Safe. -/
  | notModelled (mnemonic : String)
  deriving DecidableEq, Repr

/-- What one instruction or one step answers. -/
abbrev Result := Host.Outcome State Fault Refusal

/-- The register file at `ENTRY = PostBoot` (R44). -/
def Regs.postBoot : Regs :=
  { a := 0x01, f := 0xB0, b := 0x00, c := 0x13, d := 0x00, e := 0xD8, h := 0x01, l := 0x4D, sp := 0xFFFE, pc := 0x0100 }

/-- All control bits 0 (R44, both entries). -/
def Control.reset : Control :=
  { ime := false, imeSched := false, halted := false, stopped := false, haltBug := false, faulted := none }

/-- No bank controller and no RAM, two banks, no byte of the image placed: the image is a parameter (R10; log
entry 6). The MBC1 registers are at their reset values (R44). -/
def Cartridge.unloaded : Cartridge :=
  { rom := [], nbanks := 2, ram := [], ramBanks := 0, kind := .none,
    ramEnable := false, bankLo := 1, bankHi := 0, bankMode := false }

/-- A framebuffer of shade 0 (R44, R376). -/
def blankFrame : List (List Shade) := List.replicate 144 (List.replicate 160 0)

/-- Everything zero: the APU at reset with `ENTRY = PowerOn` (R44). -/
def Apu.off : Apu :=
  { ch1 := ⟨false, 0, 0⟩, ch2 := ⟨false, 0, 0⟩, ch3 := ⟨false, 0, 0⟩, ch4 := ⟨false, 0, 0⟩,
    env1 := ⟨0, 0, false⟩, env2 := ⟨0, 0, false⟩, env4 := ⟨0, 0, false⟩, duty1 := 0, duty2 := 0,
    sweep := ⟨0, 0, false⟩, pos3 := 0, lfsr := 0, fsAcc := 0, fsStep := 0, dsAcc := 0, samples := [] }

/-- `ENTRY = PostBoot` (log entry 5), `HALT_BUG` at the hardware's value (R10, D8) and a downsample interval of 95 cycles (DESIGN CHOICE, log entry 7). -/
def Params.default : Params := { entry := .postBoot, haltBug := true, apuDownsample := 95 }

/-- The board right after reset, `ENTRY = PostBoot` (R44): the PPU in the last V-blank line, channel 1 enabled, memory
with nothing listed (an unlisted address reads as the reset left it, R43, R44). R44 leaves the framebuffer
unspecified there: shade 0 is a DESIGN CHOICE (log entry 10). -/
def Board.reset : Board :=
  { mem := [], bootVisible := false, bootRom := [], cart := .unloaded, timer := { divAcc := 0xCC, timaAcc := 0 },
    ppu := { mode := .vblank, acc := 0, spriteList := [], winLine := 0, offAcc := 0, framebuffer := blankFrame, frames := 0 },
    apu := { Apu.off with ch1 := ⟨true, 0, 0⟩ }, buttons := 0, params := .default, draws := 0 }

/-- The machine right after reset, `ENTRY = PostBoot` (R44). -/
def State.reset : State := { regs := .postBoot, ctl := .reset, clock := 0, board := .reset, hostMoves := [] }

end Sys2Proof.Machine
end

