-- ==== Sys2Proof/Machine/Memory.lean ====
section
/-! DEFINITION. The stores: lists of (address, byte) pairs in one canonical form, what an unlisted address reads as
(spec/10_state.md R43, R44), and `mem` read and written with no routing and no side effect (spec/20_memory.md R71, R81). -/

namespace Sys2Proof.Machine

namespace Memory

/-- The byte listed at `a`, if one is. -/
def find? : Memory → Nat → Option Byte
  | [], _ => none
  | (k, v) :: m, a => if k = a then some v else find? m a

/-- List `v` at `a`, in its place. -/
def put : Memory → Nat → Byte → Memory
  | [], a, v => [(a, v)]
  | (k, w) :: m, a, v =>
    if a < k then (a, v) :: (k, w) :: m else if k = a then (a, v) :: m else (k, w) :: put m a v

/-- List nothing at `a`. -/
def erase (m : Memory) (a : Nat) : Memory := m.filter (fun c => c.1 ≠ a)

/-- Addresses strictly rising. -/
abbrev Sorted (m : Memory) : Prop := m.Pairwise (fun c d => c.1 < d.1)

end Memory

/-! ## `mem` -/

/-- Rows of the PostBoot column of R43, sixteen addresses from 0xFF00, 0xFF10, .. each; an address without a register
is 0x00 (D26). The wave-RAM row is not used (`DRAW`). -/
def ioResetRows : List (List Byte) :=
  [ -- P1 SB SC . DIV TIMA TMA TAC | . . . . . . . IF
    [0xCF, 0x00, 0x7E, 0x00, 0xAB, 0x00, 0x00, 0xF8, 0x00, 0x00, 0x00, 0x00, 0x00, 0x00, 0x00, 0xE1],
    -- NR10 NR11 NR12 NR13 NR14 . NR21 NR22 | NR23 NR24 NR30 NR31 NR32 NR33 NR34 .
    [0x80, 0xBF, 0xF3, 0xFF, 0xBF, 0x00, 0x3F, 0x00, 0xFF, 0xBF, 0x7F, 0xFF, 0x9F, 0xFF, 0xBF, 0x00],
    -- NR41 NR42 NR43 NR44 NR50 NR51 NR52 .
    [0xFF, 0x00, 0x00, 0xBF, 0x77, 0xF3, 0xF1, 0x00, 0x00, 0x00, 0x00, 0x00, 0x00, 0x00, 0x00, 0x00],
    [],
    -- LCDC STAT SCY SCX LY LYC DMA BGP | OBP0 OBP1 WY WX
    [0x91, 0x85, 0x00, 0x00, 0x00, 0x00, 0xFF, 0xFC, 0xFF, 0xFF, 0x00, 0x00, 0x00, 0x00, 0x00, 0x00],
    -- BOOT
    [0x01] ]

/-- An I/O register, or IE, after reset (R43): the PostBoot column by its rows; the PowerOn column is 0x00 but for P1
(D38). -/
def ioReset (e : Entry) (a : Nat) : Byte :=
  match e with
  | .postBoot => if a = 0xFFFF then 0x00 else (ioResetRows.getD ((a - 0xFF00) / 16) []).getD (a % 16) 0x00
  | .powerOn => if a = 0xFF00 then 0x0F else 0x00

/-- What the boot program has written into video RAM, which R44 leaves unspecified: the logo's tiles and its cells of the
map. R44 gives no addresses: these are PRESUMED, those of the DMG boot program (log entry 22). -/
def bootLogo (a : Nat) : Bool :=
  (0x8010 ≤ a && a ≤ 0x819F) || (0x9904 ≤ a && a ≤ 0x9910) || (0x9924 ≤ a && a ≤ 0x992F)

/-- What an unlisted address of `mem` holds: what the reset the machine came from left there (R43, R44); `none` where
the spec gives no value (RAM, OAM, wave RAM, the logo in video RAM; video RAM at `PowerOn`; and the cells that are
never reached, R39). Log entry 2. -/
def unlisted (e : Entry) (a : Nat) : Option Byte :=
  if a < 0x8000 then none
  else if a ≤ 0x9FFF then if e = .postBoot ∧ bootLogo a = false then some 0x00 else none
  else if a < 0xFF00 then none
  else if 0xFF30 ≤ a ∧ a ≤ 0xFF3F then none
  else if a ≤ 0xFF7F ∨ a = 0xFFFF then some (ioReset e a)
  else none

/-- `mem[a]`: the listed byte, else the reset value, else the free value of that address. -/
def Memory.get (m : Memory) (e : Entry) (a : Nat) : Byte :=
  match m.find? a with
  | some v => v
  | none =>
    match unlisted e a with
    | some v => v
    | none => Config.ramByte a

/-- `mem[a] <- v`: storing what an unlisted address holds removes the entry. -/
def Memory.set (m : Memory) (e : Entry) (a : Nat) (v : Byte) : Memory :=
  if unlisted e a = some v then m.erase a else m.put a v

/-- The canonical form of `mem`: addresses strictly rising and below 0x10000, and no entry equal to what the unlisted
address holds. -/
abbrev Memory.wf (m : Memory) (e : Entry) : Prop := m.Sorted ∧ ∀ c ∈ m, c.1 < 0x10000 ∧ unlisted e c.1 ≠ some c.2

/-- The canonical form of a store with no reset contents (the boot ROM, the cartridge's ROM and RAM). -/
abbrev Memory.imageWf (m : Memory) : Prop := m.Sorted

/-- `mem[a]` (R39). -/
def Board.byteAt (s : Board) (a : Nat) : Byte := s.mem.get s.params.entry a

/-- The board's `mem` is in canonical form. -/
abbrev Board.memWf (s : Board) : Prop := s.mem.wf s.params.entry

/-- `mem[a]` with no routing (R71). -/
def rawRead (s : Board) (a : Word) : Byte := s.byteAt a.toNat

/-- `RawWrite(a, v)`: `mem[a] <- v` with no routing and no side effect (R81). -/
def rawWrite (s : Board) (a : Word) (v : Byte) : Board := { s with mem := s.mem.set s.params.entry a.toNat v }

end Sys2Proof.Machine
end

