-- ==== Sys2Proof/Machine/Io.lean ====
section
/-! DEFINITION. The addresses of the memory-mapped registers (spec/10_state.md R36, R43), and setting a bit of `IF`
(spec/60_exceptions.md R327, R328). -/

namespace Sys2Proof.Machine

namespace Io

abbrev p1 : Word := 0xFF00
abbrev sb : Word := 0xFF01
abbrev sc : Word := 0xFF02
abbrev div : Word := 0xFF04
abbrev tima : Word := 0xFF05
abbrev tma : Word := 0xFF06
abbrev tac : Word := 0xFF07
abbrev if_ : Word := 0xFF0F
abbrev nr10 : Word := 0xFF10
abbrev nr11 : Word := 0xFF11
abbrev nr12 : Word := 0xFF12
abbrev nr13 : Word := 0xFF13
abbrev nr14 : Word := 0xFF14
abbrev nr21 : Word := 0xFF16
abbrev nr22 : Word := 0xFF17
abbrev nr23 : Word := 0xFF18
abbrev nr24 : Word := 0xFF19
abbrev nr30 : Word := 0xFF1A
abbrev nr31 : Word := 0xFF1B
abbrev nr32 : Word := 0xFF1C
abbrev nr33 : Word := 0xFF1D
abbrev nr34 : Word := 0xFF1E
abbrev nr41 : Word := 0xFF20
abbrev nr42 : Word := 0xFF21
abbrev nr43 : Word := 0xFF22
abbrev nr44 : Word := 0xFF23
abbrev nr50 : Word := 0xFF24
abbrev nr51 : Word := 0xFF25
abbrev nr52 : Word := 0xFF26
/-- The first byte of wave RAM, 0xFF30..0xFF3F. -/
abbrev wave : Word := 0xFF30
abbrev lcdc : Word := 0xFF40
abbrev stat : Word := 0xFF41
abbrev scy : Word := 0xFF42
abbrev scx : Word := 0xFF43
abbrev ly : Word := 0xFF44
abbrev lyc : Word := 0xFF45
abbrev dma : Word := 0xFF46
abbrev bgp : Word := 0xFF47
abbrev obp0 : Word := 0xFF48
abbrev obp1 : Word := 0xFF49
abbrev wy : Word := 0xFF4A
abbrev wx : Word := 0xFF4B
abbrev boot : Word := 0xFF50
abbrev ie : Word := 0xFFFF

end Io

/-- A peripheral's request: `RawWrite(0xFF0F, mem[0xFF0F] | mask)` (R328). -/
def requestInterrupt (s : Board) (mask : Byte) : Board := rawWrite s Io.if_ (rawRead s Io.if_ ||| mask)

/-- `IE & IF & 0x1F` (R327, R330). -/
def pendingInterrupts (s : Board) : Byte := rawRead s Io.ie &&& rawRead s Io.if_ &&& 0x1F

end Sys2Proof.Machine
end

