-- ==== Sys2Proof/Machine/Apu.lean ====
section
/-! DEFINITION. The APU (spec/60_exceptions.md R400 to R440): register writes, the frame sequencer, the four
generators, the mixer. -/

namespace Sys2Proof.Machine

/-- The four channels (R400). -/
inductive Chan where
  | one | two | three | four
  deriving DecidableEq, Repr

/-! ## Access to a channel's parts -/

/-- The common part of a channel. -/
def Apu.channel (p : Apu) : Chan → Channel
  | .one => p.ch1 | .two => p.ch2 | .three => p.ch3 | .four => p.ch4

/-- Replace the common part of a channel. -/
def Apu.setChannel (p : Apu) (ch : Chan) (c : Channel) : Apu :=
  match ch with
  | .one => { p with ch1 := c } | .two => { p with ch2 := c } | .three => { p with ch3 := c } | .four => { p with ch4 := c }

/-- The envelope of a channel; channel 3 has none (R400). -/
def Apu.envelope (p : Apu) : Chan → Option Envelope
  | .one => some p.env1 | .two => some p.env2 | .three => none | .four => some p.env4

/-- Replace the envelope of a channel that has one. -/
def Apu.setEnvelope (p : Apu) (ch : Chan) (v : Envelope) : Apu :=
  match ch with
  | .one => { p with env1 := v } | .two => { p with env2 := v } | .three => p | .four => { p with env4 := v }

/-- Update the APU's hidden state. -/
def mapApu (f : Apu → Apu) (s : Board) : Board := { s with apu := f s.apu }

/-! ## Registers by channel (R401 to R405) -/

/-- NRx1. -/
def Chan.nrx1 : Chan → Word
  | .one => Io.nr11 | .two => Io.nr21 | .three => Io.nr31 | .four => Io.nr41
/-- NRx2. -/
def Chan.nrx2 : Chan → Word
  | .one => Io.nr12 | .two => Io.nr22 | .three => Io.nr32 | .four => Io.nr42
/-- NRx3. -/
def Chan.nrx3 : Chan → Word
  | .one => Io.nr13 | .two => Io.nr23 | .three => Io.nr33 | .four => Io.nr43
/-- NRx4. -/
def Chan.nrx4 : Chan → Word
  | .one => Io.nr14 | .two => Io.nr24 | .three => Io.nr34 | .four => Io.nr44
/-- The channel's bit in NR52[3:0] and in either half of NR51 (R405). -/
def Chan.bit : Chan → Nat
  | .one => 0 | .two => 1 | .three => 2 | .four => 3

/-- NR52 bit 7: power (R405). -/
def apuPowered (s : Board) : Bool := (rawRead s Io.nr52).getLsbD 7

/-- `freq = NRx4[2:0] ++ NRx3` (R401). -/
def freq (s : Board) (ch : Chan) : BitVec 11 := (rawRead s ch.nrx4).extractLsb' 0 3 ++ rawRead s ch.nrx3

/-- Is the channel's DAC enabled (R408)? -/
def dacEnabled (s : Board) (ch : Chan) : Bool :=
  match ch with
  | .three => (rawRead s Io.nr30).getLsbD 7
  | ch => rawRead s ch.nrx2 &&& 0xF8 ≠ 0

/-- `SetEnabled(ch, b)` (R408): the flag and its bit of NR52. -/
def setEnabled (ch : Chan) (b : Bool) (s : Board) : Board :=
  let mask : Byte := 1 <<< ch.bit
  let s := mapApu (fun p => p.setChannel ch { p.channel ch with en := b }) s
  rawWrite s Io.nr52 (if b then rawRead s Io.nr52 ||| mask else rawRead s Io.nr52 &&& ~~~mask)

/-- Set a channel's length counter. -/
def setLen (ch : Chan) (n : Nat) : Board → Board := mapApu (fun p => p.setChannel ch { p.channel ch with len := n })

/-- Set a channel's generator timer. -/
def setTimer (ch : Chan) (n : Nat) : Board → Board := mapApu (fun p => p.setChannel ch { p.channel ch with timer := n })

/-- A full length counter: 64, and 256 for channel 3 (R403, R409). -/
def fullLength : Chan → Nat
  | .three => 256
  | _ => 64

/-- `DIVISOR[d]` of the noise generator (R416). -/
def noiseDivisor (d : BitVec 3) : Nat := if d = 0 then 8 else 16 * d.toNat

/-- `Period(ch)` in cycles (R414, R415, R416). -/
def period (s : Board) (ch : Chan) : Nat :=
  match ch with
  | .three => (2048 - (freq s .three).toNat) * 2
  | .four =>
    let nr43 := rawRead s Io.nr43
    noiseDivisor (nr43.extractLsb' 0 3) <<< (nr43.extractLsb' 4 4).toNat
  | ch => (2048 - (freq s ch).toNat) * 4

/-! ## Sweep (R413) -/

/-- `new` of `SweepCalc` (R413), an exact integer. -/
def sweepNew (s : Board) : Nat :=
  let nr10 := rawRead s Io.nr10
  let shadow := s.apu.sweep.shadow.toNat
  let d := shadow >>> (nr10.extractLsb' 0 3).toNat
  if nr10.getLsbD 3 then shadow - d else shadow + d

/-- The effect of `SweepCalc()`: over 2047 disables channel 1 (R413). -/
def sweepCheck (s : Board) : Board := if 2047 < sweepNew s then setEnabled .one false s else s

/-- The sweep timer's reload (R409, R413). -/
def sweepReload (s : Board) : Nat :=
  let p := (rawRead s Io.nr10).extractLsb' 4 3
  if p ≠ 0 then p.toNat else 8

/-- Write the new frequency of channel 1 by the raw path and into `shadow` (R413). -/
def sweepStore (new : BitVec 11) (s : Board) : Board :=
  let s := mapApu (fun p => { p with sweep := { p.sweep with shadow := new } }) s
  let s := rawWrite s Io.nr13 (new.extractLsb' 0 8)
  rawWrite s Io.nr14 ((rawRead s Io.nr14 &&& 0xF8) ||| (new.extractLsb' 8 3).setWidth 8)

/-- `SweepTick()` (R413). -/
def sweepTick (s : Board) : Board :=
  let s := mapApu (fun p => { p with sweep := { p.sweep with timer := p.sweep.timer - 1 } }) s
  if s.apu.sweep.timer ≠ 0 then s
  else
    let s := mapApu (fun p => { p with sweep := { p.sweep with timer := sweepReload s } }) s
    let nr10 := rawRead s Io.nr10
    if s.apu.sweep.on ∧ nr10.extractLsb' 4 3 ≠ 0 then
      let new := sweepNew s
      let s := sweepCheck s
      if new ≤ 2047 ∧ nr10.extractLsb' 0 3 ≠ 0 then sweepCheck (sweepStore (BitVec.ofNat 11 new) s) else s
    else s

/-! ## Trigger (R409) -/

/-- The envelope's part of `Trigger` (channels 1, 2, 4). -/
def triggerEnvelope (ch : Chan) (s : Board) : Board :=
  let nrx2 := rawRead s ch.nrx2
  mapApu (fun p => p.setEnvelope ch
    { vol := nrx2.extractLsb' 4 4, timer := (nrx2.extractLsb' 0 3).toNat, on := true }) s

/-- The sweep's part of `Trigger` (channel 1). -/
def triggerSweep (s : Board) : Board :=
  let nr10 := rawRead s Io.nr10
  let s := mapApu (fun p => { p with sweep :=
    { shadow := freq s .one, timer := sweepReload s,
      on := nr10.extractLsb' 4 3 ≠ 0 || nr10.extractLsb' 0 3 ≠ 0 } }) s
  if nr10.extractLsb' 0 3 ≠ 0 then sweepCheck s else s

/-- What `Trigger` does to the parts one channel alone has. -/
def triggerOwn (ch : Chan) (s : Board) : Board :=
  match ch with
  | .one => triggerSweep (triggerEnvelope .one s)
  | .two => triggerEnvelope .two s
  | .three => mapApu (fun p => { p with pos3 := 0 }) s
  | .four => mapApu (fun p => { p with lfsr := 0x7FFF }) (triggerEnvelope .four s)

/-- `Trigger(ch)` (R409). -/
def trigger (ch : Chan) (s : Board) : Board :=
  let s := setEnabled ch true s
  let s := if (s.apu.channel ch).len = 0 then setLen ch (fullLength ch) s else s
  let s := setTimer ch (period s ch) s
  let s := triggerOwn ch s
  if dacEnabled s ch then s else setEnabled ch false s

/-! ## Register writes (R406, R407) -/

/-- The sound registers but NR52 (R401 to R405): 0xFF10..0xFF25 without 0xFF15 and 0xFF1F, which are plain storage
(R43, R402; log entry 14). -/
def soundRegisters : List Word :=
  [Io.nr10, Io.nr11, Io.nr12, Io.nr13, Io.nr14, Io.nr21, Io.nr22, Io.nr23, Io.nr24, Io.nr30, Io.nr31, Io.nr32, Io.nr33,
   Io.nr34, Io.nr41, Io.nr42, Io.nr43, Io.nr44, Io.nr50, Io.nr51]

/-- Write 0x00 to these registers. -/
def clearRegisters (l : List Word) (s : Board) : Board := l.foldl (fun s a => rawWrite s a 0) s

/-- `ApuPowerOff()` (R407): every register of 0xFF10..0xFF25, every `en`, `vol`, `env_on`, `sw_on`, `duty_pos`, `pos`;
wave RAM and the counters are kept. -/
def apuPowerOff (s : Board) : Board :=
  let s := clearRegisters soundRegisters s
  let s := setEnabled .four false (setEnabled .three false (setEnabled .two false (setEnabled .one false s)))
  mapApu (fun p => { p with
    env1 := { p.env1 with vol := 0, on := false }, env2 := { p.env2 with vol := 0, on := false },
    env4 := { p.env4 with vol := 0, on := false }, sweep := { p.sweep with on := false },
    duty1 := 0, duty2 := 0, pos3 := 0 }) s

/-- The NR52 branch of `ApuWrite` (R406). -/
def writeNr52 (v : Byte) (s : Board) : Board :=
  let was := apuPowered s
  let s := rawWrite s Io.nr52 ((v &&& 0xF0) ||| (rawRead s Io.nr52 &&& 0x0F))
  if was && !v.getLsbD 7 then apuPowerOff s
  else if !was && v.getLsbD 7 then mapApu (fun p => { p with fsStep := 0, fsAcc := 0 }) s
  else s

/-- The effects of a register write after the byte is stored (the last lines of R406). -/
def apuWriteEffect (a : Word) (v : Byte) (s : Board) : Board :=
  if a = Io.nr11 then setLen .one (64 - (v.extractLsb' 0 6).toNat) s
  else if a = Io.nr21 then setLen .two (64 - (v.extractLsb' 0 6).toNat) s
  else if a = Io.nr41 then setLen .four (64 - (v.extractLsb' 0 6).toNat) s
  else if a = Io.nr31 then setLen .three (256 - v.toNat) s
  else if a = Io.nr12 then if v &&& 0xF8 = 0 then setEnabled .one false s else s
  else if a = Io.nr22 then if v &&& 0xF8 = 0 then setEnabled .two false s else s
  else if a = Io.nr42 then if v &&& 0xF8 = 0 then setEnabled .four false s else s
  else if a = Io.nr30 then if v.getLsbD 7 then s else setEnabled .three false s
  else if a = Io.nr14 then if v.getLsbD 7 then trigger .one s else s
  else if a = Io.nr24 then if v.getLsbD 7 then trigger .two s else s
  else if a = Io.nr34 then if v.getLsbD 7 then trigger .three s else s
  else if a = Io.nr44 then if v.getLsbD 7 then trigger .four s else s
  else s

/-- Is `a` one of the addresses whose writes go to the APU (R120): its registers and wave RAM? The two functionless
addresses in 0xFF10..0xFF26 are not (R43, R402; DEDUCED, log entry 14). -/
def soundAddress (a : Word) : Bool :=
  (0xFF10 ≤ a && a ≤ 0xFF26 && a ≠ 0xFF15 && a ≠ 0xFF1F) || (0xFF30 ≤ a && a ≤ 0xFF3F)

/-- `ApuWrite(a, v)` for the APU's registers and wave RAM (R406). -/
def apuWrite (a : Word) (v : Byte) (s : Board) : Board :=
  if 0xFF30 ≤ a ∧ a ≤ 0xFF3F then rawWrite s a v
  else if a = Io.nr52 then writeNr52 v s
  else if apuPowered s then apuWriteEffect a v (rawWrite s a v)
  else s

/-! ## The frame sequencer (R411, R412, R421) -/

/-- `LengthTick(ch)` (R411). -/
def lengthTick (ch : Chan) (s : Board) : Board :=
  let len := (s.apu.channel ch).len
  if (rawRead s ch.nrx4).getLsbD 6 ∧ 0 < len then
    let s := setLen ch (len - 1) s
    if len - 1 = 0 then setEnabled ch false s else s
  else s

/-- One clock of an envelope under its NRx2 (R412). A timer that is already 0 counts as run out (DEDUCED, log
entry 13). -/
def Envelope.tick (v : Envelope) (nrx2 : Byte) : Envelope :=
  let period := (nrx2.extractLsb' 0 3).toNat
  if !v.on || period = 0 then v
  else if 0 < v.timer - 1 then { v with timer := v.timer - 1 }
  else if nrx2.getLsbD 3 ∧ v.vol < 15 then { v with timer := period, vol := v.vol + 1 }
  else if !nrx2.getLsbD 3 ∧ 0 < v.vol then { v with timer := period, vol := v.vol - 1 }
  else { v with timer := period, on := false }

/-- `EnvelopeTick(ch)` (R412). -/
def envelopeTick (ch : Chan) (s : Board) : Board :=
  match s.apu.envelope ch with
  | some v => mapApu (fun p => p.setEnvelope ch (v.tick (rawRead s ch.nrx2))) s
  | none => s

/-- `FrameSequencerTick()` (R421). -/
def frameSequencerTick (s : Board) : Board :=
  let step := s.apu.fsStep
  let s := if step.getLsbD 0 then s else lengthTick .four (lengthTick .three (lengthTick .two (lengthTick .one s)))
  let s := if step = 2 ∨ step = 6 then sweepTick s else s
  let s := if step = 7 then envelopeTick .four (envelopeTick .two (envelopeTick .one s)) else s
  mapApu (fun p => { p with fsStep := step + 1 }) s

/-! ## The generators (R414, R415, R416) -/

/-- The shift of the noise generator: `x = lfsr[0] ^ lfsr[1]`, into bit 14 and, in short mode, also into bit 6 (R416). -/
def lfsrNext (short : Bool) (r : BitVec 15) : BitVec 15 :=
  let x := BitVec.ofBool (r.getLsbD 0 ^^ r.getLsbD 1)
  let r := x ++ r.extractLsb' 1 14
  if short then (r.extractLsb' 7 8 ++ x) ++ r.extractLsb' 0 6 else r

/-- A generator step: reload the timer and advance the position (R414, R415, R416). -/
def generatorStep (ch : Chan) (s : Board) : Board :=
  let s := setTimer ch (period s ch) s
  match ch with
  | .one => mapApu (fun p => { p with duty1 := p.duty1 + 1 }) s
  | .two => mapApu (fun p => { p with duty2 := p.duty2 + 1 }) s
  | .three => mapApu (fun p => { p with pos3 := p.pos3 + 1 }) s
  | .four => mapApu (fun p => { p with lfsr := lfsrNext ((rawRead s Io.nr43).getLsbD 3) p.lfsr }) s

/-- One cycle of a channel's timer (R420). -/
def timerCycle (ch : Chan) (s : Board) : Board :=
  let t := (s.apu.channel ch).timer - 1
  if t = 0 then generatorStep ch (setTimer ch t s) else setTimer ch t s

/-! ## Output and mixer (R408, R414 to R416, R422, R430) -/

/-- The four duty waveforms, indexed by duty and position (R414). -/
def dutyWave : List (List Nat) :=
  [[0, 0, 0, 0, 0, 0, 0, 1], [1, 0, 0, 0, 0, 0, 0, 1], [1, 0, 0, 0, 0, 1, 1, 1], [0, 1, 1, 1, 1, 1, 1, 0]]

/-- Is the pulse waveform high? -/
def dutyHigh (nrx1 : Byte) (pos : BitVec 3) : Bool :=
  (dutyWave.getD (nrx1.extractLsb' 6 2).toNat []).getD pos.toNat 0 = 1

/-- Sample `pos` of wave RAM: even samples in bits 7..4, odd ones in bits 3..0 (R403, R415). -/
def waveSample (s : Board) (pos : BitVec 5) : BitVec 4 :=
  let byte := s.byteAt (0xFF30 + pos.toNat / 2)
  if pos.getLsbD 0 then byte.extractLsb' 0 4 else byte.extractLsb' 4 4

/-- The output shift of channel 3 by NR32[6:5] (R403). -/
def waveShift (nr32 : Byte) : Nat :=
  let level := nr32.extractLsb' 5 2
  if level = 0 then 4 else if level = 1 then 0 else if level = 2 then 1 else 2

/-- The digital output `d` of a channel, 0..15 (R414, R415, R416). -/
def digitalOutput (s : Board) (ch : Chan) : Nat :=
  if (s.apu.channel ch).en then
    match ch with
    | .one => if dutyHigh (rawRead s Io.nr11) s.apu.duty1 then s.apu.env1.vol.toNat else 0
    | .two => if dutyHigh (rawRead s Io.nr21) s.apu.duty2 then s.apu.env2.vol.toNat else 0
    | .three => (waveSample s s.apu.pos3).toNat >>> waveShift (rawRead s Io.nr32)
    | .four => if s.apu.lfsr.getLsbD 0 then 0 else s.apu.env4.vol.toNat
  else 0

/-- `get_output` (R408, R422) times 15: `d / 7.5 - 1.0` is `(2 d - 15) / 15` while the DAC is enabled, else 0. -/
def analogOutput15 (s : Board) (ch : Chan) : Int :=
  if dacEnabled s ch then 2 * (digitalOutput s ch : Int) - 15 else 0

/-- One side of the mixer times 480 (R430): the routed channels' sum, `/ 4`, `* (volume + 1) / 8`. -/
def mixSide (s : Board) (routes : BitVec 4) (volume : BitVec 3) : Int :=
  let part (ch : Chan) : Int := if routes.getLsbD ch.bit then analogOutput15 s ch else 0
  (part .one + part .two + part .three + part .four) * (volume.toNat + 1)

/-- The stereo pair of this moment (R430); with power off both sides are 0. -/
def currentSample (s : Board) : Sample :=
  if apuPowered s then
    let nr50 := rawRead s Io.nr50
    let nr51 := rawRead s Io.nr51
    { left := mixSide s (nr51.extractLsb' 4 4) (nr50.extractLsb' 4 3),
      right := mixSide s (nr51.extractLsb' 0 4) (nr50.extractLsb' 0 3) }
  else { left := 0, right := 0 }

/-! ## The step (R420) -/

/-- The part of a cycle that runs only with power on: frame sequencer, then the four timers. -/
def apuPoweredCycle (s : Board) : Board :=
  let acc := s.apu.fsAcc + 1
  let s :=
    if acc = 8192 then frameSequencerTick (mapApu (fun p => { p with fsAcc := 0 }) s)
    else mapApu (fun p => { p with fsAcc := acc }) s
  timerCycle .four (timerCycle .three (timerCycle .two (timerCycle .one s)))

/-- The downsampler's part of a cycle: `EmitSample` every `APU_DOWNSAMPLE_CYCLES` (R420, R430). -/
def downsampleCycle (s : Board) : Board :=
  let acc := s.apu.dsAcc + 1
  if acc = s.params.apuDownsample then
    mapApu (fun p => { p with dsAcc := 0, samples := currentSample s :: p.samples }) s
  else mapApu (fun p => { p with dsAcc := acc }) s

/-- One cycle of the APU. -/
def apuCycle (s : Board) : Board := downsampleCycle (if apuPowered s then apuPoweredCycle s else s)

/-- `ApuStep(cycles)` (R420). -/
def apuStep : Nat → Board → Board
  | 0, s => s
  | n + 1, s => apuStep n (apuCycle s)

end Sys2Proof.Machine
end

