-- ==== Sys2Proof/Machine/Cartridge.lean ====
section
/-! DEFINITION. The cartridge and its bank controller (spec/20_memory.md R65, R67, R90 to R104). -/

namespace Sys2Proof.Machine

/-- `rom_bank` (R96, R97): 1 with no controller, `((bank_hi << 5) | bank_lo) mod nbanks` under MBC1. -/
def Cartridge.romBank (c : Cartridge) : Nat :=
  match c.kind with
  | .none => 1
  | .mbc1 => (c.bankHi ++ c.bankLo).toNat % c.nbanks

/-- `ram_bank` (R102). -/
def Cartridge.ramBank (c : Cartridge) : Nat := (if c.bankMode then c.bankHi.toNat else 0) % c.ramBanks

/-- Is there external RAM, and is it enabled (R67)? Without a bank controller there is none (R96). -/
def Cartridge.ramUsable (c : Cartridge) : Bool := c.kind = .mbc1 && 0 < c.ramBanks && c.ramEnable

/-- The offset in `CART_ROM` of a CPU address below 0x8000 (R65). -/
def Cartridge.romOffset (c : Cartridge) (a : Word) : Nat :=
  if a ≤ 0x3FFF then a.toNat else c.romBank * 0x4000 + (a.toNat - 0x4000)

/-- The offset in `cart_ram` of a CPU address in 0xA000..0xBFFF (R67). -/
def Cartridge.ramOffset (c : Cartridge) (a : Word) : Nat := c.ramBank * 0x2000 + (a.toNat - 0xA000)

/-- `CART_ROM[i]`. -/
def Cartridge.romByte (c : Cartridge) (i : Nat) : Byte := (c.rom.find? i).getD (Config.cartRomByte i)

/-- `cart_ram[i]`. -/
def Cartridge.ramByte (c : Cartridge) (i : Nat) : Byte := (c.ram.find? i).getD (Config.cartRamByte i)

/-- `BankControllerWrite(a, v)` for `a` below 0x8000 (R96, R98 to R101). -/
def Cartridge.bankWrite (c : Cartridge) (a : Word) (v : Byte) : Cartridge :=
  match c.kind with
  | .none => c
  | .mbc1 =>
    if a ≤ 0x1FFF then { c with ramEnable := v &&& 0x0F = 0x0A }
    else if a ≤ 0x3FFF then { c with bankLo := if v.extractLsb' 0 5 = 0 then 1 else v.extractLsb' 0 5 }
    else if a ≤ 0x5FFF then { c with bankHi := v.extractLsb' 0 2 }
    else { c with bankMode := v.getLsbD 0 }

/-! ## Loading (R90 to R95) -/

/-- Why an image is refused at load: no machine is built (R95, U10). -/
inductive LoadError where
  /-- The image has no byte at a header offset (R91). -/
  | noHeader
  /-- The cartridge-type byte is not one of R92. -/
  | unsupportedType (code : Byte)
  /-- The ROM-size code is not one of R93. -/
  | unknownRomSize (code : Byte)
  /-- The RAM-size code is not one of R94. -/
  | unknownRamSize (code : Byte)
  /-- The image is shorter than `16384 * nbanks` (R95). -/
  | truncatedImage (length : Nat)
  deriving DecidableEq, Repr

/-- The controller a type byte selects, and whether the cartridge has RAM (R92). -/
def cartType (code : Byte) : Option (MbcKind × Bool) :=
  if code = 0x00 then some (.none, false) else if code = 0x01 then some (.mbc1, false)
  else if code = 0x02 ∨ code = 0x03 then some (.mbc1, true) else none

/-- The ROM bank count of a size code (R93): `2 << code` for 0x00 to 0x08, and the three special codes. Code 0x08 is
decision D36's; R93's table ends at 0x07 (DEDUCED, log entry 15). -/
def romBanksOf (code : Byte) : Option Nat :=
  if code ≤ 0x08 then some (2 <<< code.toNat) else if code = 0x52 then some 72 else if code = 0x53 then some 80
  else if code = 0x54 then some 96 else none

/-- The RAM bank count of a size code (R94). -/
def ramBanksOf (code : Byte) : Option Nat :=
  if code = 0x00 then some 0 else if code = 0x01 ∨ code = 0x02 then some 1 else if code = 0x03 then some 4 else none

/-- The image as a store: byte `i` at offset `i`. -/
def imageCells (i : Nat) : List Byte → Memory
  | [] => []
  | v :: vs => (i, v) :: imageCells (i + 1) vs

/-- `LoadCartridge(image)` with the RAM contents the host supplies (R90 to R95, R465), the registers at reset (R44). -/
def loadImage (image : List Byte) (ram : Memory) : Except LoadError Cartridge :=
  match image[0x0147]?, image[0x0148]?, image[0x0149]? with
  | some type, some romSize, some ramSize =>
    match cartType type with
    | none => .error (.unsupportedType type)
    | some (kind, hasRam) =>
      match romBanksOf romSize with
      | none => .error (.unknownRomSize romSize)
      | some nbanks =>
        match ramBanksOf ramSize with
        | none => .error (.unknownRamSize ramSize)
        | some ramBanks =>
          if image.length < 16384 * nbanks then .error (.truncatedImage image.length)
          else .ok { rom := imageCells 0 image, nbanks := nbanks, ram := ram,
                     ramBanks := if hasRam then ramBanks else 0, kind := kind,
                     ramEnable := false, bankLo := 1, bankHi := 0, bankMode := false }
  | _, _, _ => .error .noHeader

end Sys2Proof.Machine
end

