-- ==== Sys2Proof/Machine/Joypad.lean ====
section
/-! DEFINITION. The joypad register and the host's move on it (spec/60_exceptions.md R345, R346; spec/20_memory.md R111). -/

namespace Sys2Proof.Machine

/-- `JoypadNibble(sel, buttons)` (R345): `sel` is P1[5:4]; a selected group pulls its pressed lines to 0. -/
def joypadNibble (sel : BitVec 2) (buttons : Byte) : BitVec 4 :=
  let n : BitVec 4 := 0xF
  let n := if sel.getLsbD 0 then n else n &&& ~~~(buttons.extractLsb' 0 4)
  if sel.getLsbD 1 then n else n &&& ~~~(buttons.extractLsb' 4 4)

/-- P1 with the select bits of `v` and the lines they select (R111). -/
def p1Value (v buttons : Byte) : Byte := (v &&& 0xF0) ||| (joypadNibble (v.extractLsb' 4 2) buttons).setWidth 8

/-- A program's write to P1 (R111): no request (D28). -/
def writeP1 (v : Byte) (s : Board) : Board := rawWrite s Io.p1 (p1Value v s.buttons)

/-- Does a selected line go from 1 to 0 when the buttons become `b` (R346)? -/
def lineFalls (b : Byte) (s : Board) : Bool :=
  let old := rawRead s Io.p1
  old.extractLsb' 0 4 &&& ~~~((p1Value old b).extractLsb' 0 4) ≠ 0

/-- What `SetButtons(b)` does to the board (R346): the buttons, P1's lines, and the joypad request when a selected line
goes from 1 to 0. -/
def pressButtons (b : Byte) (s : Board) : Board :=
  let t := rawWrite { s with buttons := b } Io.p1 (p1Value (rawRead s Io.p1) b)
  if lineFalls b s then requestInterrupt t 0x10 else t

end Sys2Proof.Machine
end

