-- ==== Sys2Proof/Machine/Ppu.lean ====
section
/-! DEFINITION. The PPU (spec/60_exceptions.md R360 to R393): mode machine, OAM search, the pixel of each column. -/

namespace Sys2Proof.Machine

/-! ## Modes, LY and the STAT requests -/

/-- The number of a mode in STAT[1:0] (R362). -/
def PpuMode.code : PpuMode → Byte
  | .hblank => 0 | .vblank => 1 | .oamSearch => 2 | .transfer => 3

/-- Write STAT[1:0] by the raw path. -/
def writeStatMode (m : PpuMode) (s : Board) : Board := rawWrite s Io.stat ((rawRead s Io.stat &&& 0xFC) ||| m.code)

/-- Does entering `m` request the STAT interrupt, given STAT (R373)? Entering mode 3 never does. -/
def modeRequests (m : PpuMode) (stat : Byte) : Bool :=
  match m with
  | .hblank => stat.getLsbD 3
  | .vblank => stat.getLsbD 4
  | .oamSearch => stat.getLsbD 5
  | .transfer => false

/-- `SetMode(m)` (R373). -/
def setMode (m : PpuMode) (s : Board) : Board :=
  let s := writeStatMode m { s with ppu := { s.ppu with mode := m } }
  if modeRequests m (rawRead s Io.stat) then requestInterrupt s 0x02 else s

/-- `LycCompare()` (R375). -/
def lycCompare (s : Board) : Board :=
  if rawRead s Io.ly = rawRead s Io.lyc then
    let s := rawWrite s Io.stat (rawRead s Io.stat ||| 0x04)
    if (rawRead s Io.stat).getLsbD 6 then requestInterrupt s 0x02 else s
  else rawWrite s Io.stat (rawRead s Io.stat &&& 0xFB)

/-- `RaiseVBlank()` (R374). -/
def raiseVBlank (s : Board) : Board := requestInterrupt s 0x01

/-- `FrameDone()` (R392): the host may copy `framebuffer` now. It changes nothing of the block; the model counts it. -/
def frameDone (s : Board) : Board := { s with ppu := { s.ppu with frames := s.ppu.frames + 1 } }

/-- `PpuDisable()`: LCDC bit 7 written 1 to 0 (R376). -/
def ppuDisable (s : Board) : Board :=
  let s := rawWrite s Io.ly 0
  let s := rawWrite s Io.stat (rawRead s Io.stat &&& 0xFC)
  { s with ppu := { s.ppu with mode := .hblank, acc := 0, offAcc := 0, winLine := 0, spriteList := [],
                               framebuffer := blankFrame } }

/-- `PpuEnable()`: LCDC bit 7 written 0 to 1 (R377). No request for this first entry of mode 2. -/
def ppuEnable (s : Board) : Board :=
  let s := rawWrite s Io.ly 0
  let s := { s with ppu := { s.ppu with acc := 0, winLine := 0, mode := .oamSearch } }
  lycCompare (writeStatMode .oamSearch s)

/-! ## OAM search -/

/-- LCDC as the PPU reads it at each use (R361). -/
def lcdcBit (s : Board) (n : Nat) : Bool := (rawRead s Io.lcdc).getLsbD n

/-- Byte `i` of OAM entry `k` (R366). -/
def oamByte (s : Board) (k i : Nat) : Byte := s.byteAt (0xFE00 + 4 * k + i)

/-- Sprite height from LCDC bit 2 (R361, R380). -/
def spriteHeight (s : Board) : Nat := if lcdcBit s 2 then 16 else 8

/-- Does entry `k`'s vertical span cover line `ly` (R380)? -/
def spriteOnLine (s : Board) (ly k : Nat) : Bool :=
  let y := (oamByte s k 0).toNat
  y ≤ ly + 16 && ly + 16 < y + spriteHeight s

/-- `OamSearch(ly)` (R380): the first ten qualifying entries in table order. -/
def oamSearch (s : Board) (ly : Nat) : List Nat := ((List.range 40).filter (spriteOnLine s ly)).take 10

/-! ## Pixels -/

/-- The 2-bit colour index `hi[bit] ++ lo[bit]` (R367). -/
def colourIndex (lo hi : Byte) (bit : Nat) : BitVec 2 := BitVec.ofBool (hi.getLsbD bit) ++ BitVec.ofBool (lo.getLsbD bit)

/-- Shade of index `i` under a palette register (R365): bits `2i+1 : 2i`. -/
def shadeOf (palette : Byte) (i : BitVec 2) : Shade := palette.extractLsb' (2 * i.toNat) 2

/-- Tile address for background and window (R367): LCDC bit 4 chooses the addressing mode. -/
def tileAddress (unsignedMode : Bool) (idx : Byte) : Nat :=
  if unsignedMode then 0x8000 + 16 * idx.toNat else 0x8800 + 16 * ((idx.toNat + 128) % 256)

/-- The colour index at position (px, py) of a 32 by 32 map of tiles (R367, R382). -/
def mapPixel (s : Board) (map px py : Nat) : BitVec 2 :=
  let idx := s.byteAt (map + 32 * (py / 8) + px / 8)
  let row := tileAddress (lcdcBit s 4) idx + 2 * (py % 8)
  colourIndex (s.byteAt row) (s.byteAt (row + 1)) (7 - px % 8)

/-- Background colour index at column `x` of line `ly` (R382). -/
def backgroundPixel (s : Board) (ly x : Nat) : BitVec 2 :=
  mapPixel s (if lcdcBit s 3 then 0x9C00 else 0x9800)
    ((x + (rawRead s Io.scx).toNat) % 256) ((ly + (rawRead s Io.scy).toNat) % 256)

/-- `window_on_line` (R383). -/
def windowOnLine (s : Board) (ly : Nat) : Bool :=
  lcdcBit s 5 && lcdcBit s 0 && (rawRead s Io.wy).toNat ≤ ly && (rawRead s Io.wx).toNat ≤ 166

/-- Window colour index at column `x` (R383): its own line counter, no scrolling. -/
def windowPixel (s : Board) (x : Nat) : BitVec 2 :=
  mapPixel s (if lcdcBit s 6 then 0x9C00 else 0x9800) (x + 7 - (rawRead s Io.wx).toNat) s.ppu.winLine

/-- Background-or-window colour index at column `x`: 0 when LCDC bit 0 is 0 (R382, R383). -/
def backPixel (s : Board) (ly x : Nat) : BitVec 2 :=
  if !lcdcBit s 0 then 0
  else if windowOnLine s ly && (rawRead s Io.wx).toNat ≤ x + 7 then windowPixel s x
  else backgroundPixel s ly x

/-- An opaque sprite pixel: the sprite's X, its colour index and its attributes. -/
structure SpritePixel where
  x : Byte
  index : BitVec 2
  attr : Byte
  deriving DecidableEq, Repr

/-- The pixel of sprite `k` at column `x` of line `ly`, if it covers the column and is opaque (R384). The row is an
integer: an entry rewritten after the search may give one outside the sprite (log entry 8). -/
def spritePixel (s : Board) (ly x k : Nat) : Option SpritePixel :=
  let sx := (oamByte s k 1).toNat
  let attr := oamByte s k 3
  if sx ≤ x + 8 ∧ x + 8 < sx + 8 then
    let h := spriteHeight s
    let c := if attr.getLsbD 5 then 7 - (x + 8 - sx) else x + 8 - sx
    let r : Int := (ly : Int) + 16 - (oamByte s k 0).toNat
    let r := if attr.getLsbD 6 then (h : Int) - 1 - r else r
    let tile := oamByte s k 2
    let tile := if h = 8 then tile else (tile &&& 0xFE) ||| (if r ≥ 8 then 1 else 0)
    let row := 0x8000 + 16 * tile.toNat + 2 * (r % 8).toNat
    let ci := colourIndex (s.byteAt row) (s.byteAt (row + 1)) (7 - c)
    if ci = 0 then none else some { x := oamByte s k 1, index := ci, attr := attr }
  else none

/-- The better of two candidates, `p` standing earlier in `sprite_list`: the smaller X, and `p` on a tie (R384). -/
def betterSprite (p q : SpritePixel) : SpritePixel := if q.x < p.x then q else p

/-- The winner among the opaque sprite pixels at a column (R384): only if LCDC bit 1 is 1. -/
def winningSprite (s : Board) (ly x : Nat) : Option SpritePixel :=
  if lcdcBit s 1 then
    match s.ppu.spriteList.filterMap (spritePixel s ly x) with
    | [] => none
    | p :: ps => some (ps.foldl betterSprite p)
  else none

/-- The shade of the background or window: BGP, or 0 when LCDC bit 0 is 0 (R382, R385). -/
def backShade (s : Board) (bg : BitVec 2) : Shade := if lcdcBit s 0 then shadeOf (rawRead s Io.bgp) bg else 0

/-- Mixing (R385): the shade at column `x` of line `ly`. -/
def pixelShade (s : Board) (ly x : Nat) : Shade :=
  let bg := backPixel s ly x
  match winningSprite s ly x with
  | some p =>
    if p.attr.getLsbD 7 ∧ bg ≠ 0 then backShade s bg
    else shadeOf (rawRead s (if p.attr.getLsbD 4 then Io.obp1 else Io.obp0)) p.index
  | none => backShade s bg

/-- `RenderLine(ly)` (R381, R386): the 160 shades of the line; a line the window was drawn on advances its counter. -/
def renderLine (s : Board) (ly : Nat) : Board :=
  { s with ppu := { s.ppu with
      framebuffer := s.ppu.framebuffer.set ly ((List.range 160).map (pixelShade s ly))
      winLine := if windowOnLine s ly then s.ppu.winLine + 1 else s.ppu.winLine } }

/-! ## The step -/

/-- How long a mode lasts (R370): H-blank 204, V-blank line 456, OAM search 80, pixel transfer 172. -/
def PpuMode.length : PpuMode → Nat
  | .hblank => 204 | .vblank => 456 | .oamSearch => 80 | .transfer => 172

/-- What happens at the end of the current mode (the four branches of R372). -/
def ppuModeEnd (s : Board) : Board :=
  let ly := rawRead s Io.ly
  match s.ppu.mode with
  | .oamSearch => setMode .transfer { s with ppu := { s.ppu with spriteList := oamSearch s ly.toNat } }
  | .transfer => setMode .hblank (renderLine s ly.toNat)
  | .hblank =>
    let s := lycCompare (rawWrite s Io.ly (ly + 1))
    if rawRead s Io.ly = 144 then frameDone (raiseVBlank (setMode .vblank s)) else setMode .oamSearch s
  | .vblank =>
    if ly = 153 ∨ ly = 0 then
      let s := rawWrite s Io.ly 0
      setMode .oamSearch (lycCompare { s with ppu := { s.ppu with winLine := 0 } })
    else lycCompare (rawWrite s Io.ly (ly + 1))

/-- The loop of R372: leave modes while the accumulated cycles last. Every pass takes at least 80 cycles off, so
`acc / 80 + 1` passes are enough. -/
def ppuLoop : Nat → Board → Board
  | 0, s => s
  | n + 1, s =>
    if s.ppu.acc < s.ppu.mode.length then s
    else ppuLoop n (ppuModeEnd { s with ppu := { s.ppu with acc := s.ppu.acc - s.ppu.mode.length } })

/-- `PpuOffStep(cycles)` (R378). -/
def ppuOffStep (cycles : Nat) (s : Board) : Board :=
  let acc := s.ppu.offAcc + cycles
  let done := { s with ppu := { s.ppu with offAcc := acc % 70224 } }
  if acc / 70224 = 0 then done
  else { done with ppu := { done.ppu with framebuffer := blankFrame, frames := done.ppu.frames + acc / 70224 } }

/-- `PpuStep(cycles)` (R372). -/
def ppuStep (cycles : Nat) (s : Board) : Board :=
  if lcdcBit s 7 then
    let acc := s.ppu.acc + cycles
    ppuLoop (acc / 80 + 1) { s with ppu := { s.ppu with acc := acc } }
  else ppuOffStep cycles s

end Sys2Proof.Machine
end

