-- ==== Sys2Proof/Machine/Timer.lean ====
section
/-! DEFINITION. The Timer (spec/60_exceptions.md R350 to R356). -/

namespace Sys2Proof.Machine

/-- Do `f` to the state `n` times. -/
def iterate (f : Board → Board) : Nat → Board → Board
  | 0, s => s
  | n + 1, s => iterate f n (f s)

/-- One increment of DIV, which wraps (R350, R352). -/
def divTick (s : Board) : Board := rawWrite s Io.div (rawRead s Io.div + 1)

/-- `TimaTick()` (R354): on overflow reload from TMA and request the timer interrupt. -/
def timaTick (s : Board) : Board :=
  if rawRead s Io.tima = 0xFF then requestInterrupt (rawWrite s Io.tima (rawRead s Io.tma)) 0x04
  else rawWrite s Io.tima (rawRead s Io.tima + 1)

/-- The period of TIMA by TAC[1:0] (R351). -/
def timaPeriod (rate : BitVec 2) : Nat :=
  if rate = 0 then 1024 else if rate = 1 then 16 else if rate = 2 then 64 else 256

/-- The divider's half of `TimerStep` (R352): the loop subtracts 256 as often as it fits, one increment each time. -/
def divStep (cycles : Nat) (s : Board) : Board :=
  let acc := s.timer.divAcc + cycles
  iterate divTick (acc / 256) { s with timer := { s.timer with divAcc := acc % 256 } }

/-- The configurable counter's half of `TimerStep` (R352): only while TAC[2] = 1. -/
def timaStep (cycles : Nat) (s : Board) : Board :=
  let tac := rawRead s Io.tac
  if tac.getLsbD 2 then
    let period := timaPeriod (tac.extractLsb' 0 2)
    let acc := s.timer.timaAcc + cycles
    iterate timaTick (acc / period) { s with timer := { s.timer with timaAcc := acc % period } }
  else s

/-- `TimerStep(cycles)` (R352). -/
def timerStep (cycles : Nat) (s : Board) : Board := timaStep cycles (divStep cycles s)

end Sys2Proof.Machine
end

