-- ==== Sys2Proof/Machine/Bus.lean ====
section
/-! DEFINITION. The Bus (spec/20_memory.md R60 to R82, R110 to R121): the address decode, the checked read and write,
the side effects of writes to I/O registers. -/

namespace Sys2Proof.Machine

/-! ## The address decode (R63) -/

/-- The regions of the address space (R63). -/
inductive Region where
  /-- 0x0000..0x00FF while the boot ROM is visible (R64) -/
  | boot
  /-- 0x0000..0x7FFF otherwise (R65) -/
  | rom
  /-- 0x8000..0x9FFF (R66) -/
  | vram
  /-- 0xA000..0xBFFF (R67) -/
  | extRam
  /-- 0xC000..0xDFFF (R68) -/
  | wram
  /-- 0xE000..0xFDFF (R68) -/
  | echo
  /-- 0xFE00..0xFE9F (R69) -/
  | oam
  /-- 0xFEA0..0xFEFF (R69) -/
  | crash
  /-- 0xFF00..0xFF7F (R71) -/
  | io
  /-- 0xFF80..0xFFFF: high RAM and IE (R72) -/
  | high
  deriving DecidableEq, Repr

/-- The region of an address, first matching line of R70 and R80. -/
def regionOf (bootVisible : Bool) (a : Word) : Region :=
  if bootVisible ∧ a ≤ 0x00FF then .boot
  else if a ≤ 0x7FFF then .rom
  else if a ≤ 0x9FFF then .vram
  else if a ≤ 0xBFFF then .extRam
  else if a ≤ 0xDFFF then .wram
  else if a ≤ 0xFDFF then .echo
  else if a ≤ 0xFE9F then .oam
  else if a ≤ 0xFEFF then .crash
  else if a ≤ 0xFF7F then .io
  else .high

/-- The region of an address in this state. -/
def Board.region (s : Board) (a : Word) : Region := regionOf s.bootVisible a

/-! ## Read (R70) -/

/-- `BOOT_ROM[a]`. -/
def bootByte (s : Board) (a : Word) : Byte := (s.bootRom.find? a.toNat).getD (Config.bootRomByte a.toNat)

/-- The value of `MemRead(a, 1)` (R70). A read of the crash region answers the next draw. -/
def memRead (s : Board) (a : Word) : Byte :=
  match s.region a with
  | .boot => bootByte s a
  | .rom => s.cart.romByte (s.cart.romOffset a)
  | .extRam => if s.cart.ramUsable then s.cart.ramByte (s.cart.ramOffset a) else 0xFF
  | .echo => rawRead s (a - 0x2000)
  | .crash => Config.draw s.draws
  | .vram | .wram | .oam | .io | .high => rawRead s a

/-- The state after a read of `a`: a read changes nothing of the block (R70); a read that was answered by a draw takes
that draw. -/
def afterMemRead (s : Board) (a : Word) : Board :=
  match s.region a with
  | .crash => { s with draws := s.draws + 1 }
  | .boot | .rom | .vram | .extRam | .wram | .echo | .oam | .io | .high => s

/-! ## I/O writes (R110 to R121) -/

/-- DIV: any write resets it and its accumulator (R112). -/
def writeDiv (s : Board) : Board :=
  let s := rawWrite s Io.div 0
  { s with timer := { s.timer with divAcc := 0 } }

/-- TAC: a write that changes bits 2..0 resets the phase of the configurable counter (R113, R355). -/
def writeTac (v : Byte) (s : Board) : Board :=
  let old := rawRead s Io.tac
  let s := rawWrite s Io.tac v
  if old.extractLsb' 0 3 ≠ v.extractLsb' 0 3 then { s with timer := { s.timer with timaAcc := 0 } } else s

/-- LCDC: a change of bit 7 disables or enables the PPU (R115). -/
def writeLcdc (v : Byte) (s : Board) : Board :=
  let old := rawRead s Io.lcdc
  let s := rawWrite s Io.lcdc v
  if old.getLsbD 7 && !v.getLsbD 7 then ppuDisable s
  else if !old.getLsbD 7 && v.getLsbD 7 then ppuEnable s
  else s

/-- STAT: bits 2..0 are read-only (R116). -/
def writeStat (v : Byte) (s : Board) : Board := rawWrite s Io.stat ((v &&& 0xF8) ||| (rawRead s Io.stat &&& 0x07))

/-- LYC: compared at once when the LCD is enabled (R116). -/
def writeLyc (v : Byte) (s : Board) : Board :=
  let s := rawWrite s Io.lyc v
  if lcdcBit s 7 then lycCompare s else s

/-- BOOT: any write hides the boot region for good (R117). -/
def writeBoot (v : Byte) (s : Board) : Board := { rawWrite s Io.boot v with bootVisible := false }

/-- The byte the OAM copy takes for offset `i` of page `v`: unspecified from page 0xE0 on (R118, U3). -/
def dmaByte (s : Board) (v : Byte) (i : Nat) : Byte :=
  if v < 0xE0 then memRead s (wordOf v (BitVec.ofNat 8 i)) else Config.draw s.draws

/-- One byte of the OAM copy. -/
def dmaCopyByte (v : Byte) (s : Board) (i : Nat) : Board :=
  let t := rawWrite s (0xFE00 + BitVec.ofNat 16 i) (dmaByte s v i)
  if v < 0xE0 then t else { t with draws := t.draws + 1 }

/-- DMA: the copy of 160 bytes into OAM, all within the writing instruction (R118). -/
def writeDma (v : Byte) (s : Board) : Board := (List.range 160).foldl (dmaCopyByte v) (rawWrite s Io.dma v)

/-- `IoWrite(a, v)` for `a` in 0xFF00..0xFF7F (R110). -/
def ioWrite (a : Word) (v : Byte) (s : Board) : Board :=
  if a = Io.p1 then writeP1 v s
  else if a = Io.div then writeDiv s
  else if a = Io.tac then writeTac v s
  else if soundAddress a then apuWrite a v s
  else if a = Io.lcdc then writeLcdc v s
  else if a = Io.stat then writeStat v s
  else if a = Io.ly then s
  else if a = Io.lyc then writeLyc v s
  else if a = Io.dma then writeDma v s
  else if a = Io.boot then writeBoot v s
  else rawWrite s a v

/-! ## Write (R80) -/

/-- A store to external RAM (R67). -/
def extRamWrite (s : Board) (a : Word) (v : Byte) : Board :=
  if s.cart.ramUsable then { s with cart := { s.cart with ram := s.cart.ram.put (s.cart.ramOffset a) v } } else s

/-- `MemWrite(a, 1, v)`, the checked path (R80). A rejected write changes no state. -/
def memWrite (s : Board) (a : Word) (v : Byte) : Board :=
  match s.region a with
  | .boot => s
  | .rom => { s with cart := s.cart.bankWrite a v }
  | .extRam => extRamWrite s a v
  | .echo => rawWrite s (a - 0x2000) v
  | .crash => s
  | .io => ioWrite a v s
  | .vram | .wram | .oam | .high => rawWrite s a v

end Sys2Proof.Machine
end

