-- ==== Sys2Proof/Machine/Operands.lean ====
section
/-! DEFINITION. Every operand form (spec/10_state.md R20 to R22, spec/30_encoding.md R145 to R150): registers, pairs,
the byte at an address, conditions. -/

namespace Sys2Proof.Machine

/-! ## The Bus as the CPU uses it (R12) -/

/-- The region of an address in this state (R63). -/
def State.region (s : State) (a : Word) : Region := s.board.region a

/-- `MemRead(a, 1)`: the byte. -/
def busRead (s : State) (a : Word) : Byte := memRead s.board a

/-- `MemRead(a, 1)`: the state after it. -/
def afterRead (s : State) (a : Word) : State := { s with board := afterMemRead s.board a }

/-- `MemWrite(a, 1, v)`. -/
def busWrite (s : State) (a : Word) (v : Byte) : State := { s with board := memWrite s.board a v }

/-! ## 8-bit registers (R145) -/

/-- Read a register of the file. -/
def Regs.get (g : Regs) : Reg8 → Byte
  | .b => g.b | .c => g.c | .d => g.d | .e => g.e | .h => g.h | .l => g.l | .a => g.a

/-- Write a register of the file. -/
def Regs.set (g : Regs) (r : Reg8) (v : Byte) : Regs :=
  match r with
  | .b => { g with b := v } | .c => { g with c := v } | .d => { g with d := v } | .e => { g with e := v }
  | .h => { g with h := v } | .l => { g with l := v } | .a => { g with a := v }

/-- `r8[i]`. -/
def State.reg (s : State) (r : Reg8) : Byte := s.regs.get r

/-- `r8[i] <- v`. -/
def State.setReg (s : State) (r : Reg8) (v : Byte) : State := { s with regs := s.regs.set r v }

/-! ## Pairs (R21, R146) -/

/-- `BC`. -/
def State.bc (s : State) : Word := wordOf s.regs.b s.regs.c
/-- `DE`. -/
def State.de (s : State) : Word := wordOf s.regs.d s.regs.e
/-- `HL`. -/
def State.hl (s : State) : Word := wordOf s.regs.h s.regs.l
/-- `AF`. -/
def State.af (s : State) : Word := wordOf s.regs.a s.regs.f

/-- `BC <- v`: both halves at once (R21). -/
def State.setBc (s : State) (v : Word) : State := { s with regs := { s.regs with b := hiByte v, c := loByte v } }
/-- `DE <- v`. -/
def State.setDe (s : State) (v : Word) : State := { s with regs := { s.regs with d := hiByte v, e := loByte v } }
/-- `HL <- v`. -/
def State.setHl (s : State) (v : Word) : State := { s with regs := { s.regs with h := hiByte v, l := loByte v } }
/-- `AF <- v`: the low nibble of `F` is discarded (R21, R23). -/
def State.setAf (s : State) (v : Word) : State :=
  { s with regs := { s.regs with a := hiByte v, f := loByte v &&& 0xF0 } }
/-- `SP <- v`. -/
def State.setSp (s : State) (v : Word) : State := { s with regs := { s.regs with sp := v } }
/-- `PC <- v`. -/
def State.setPc (s : State) (v : Word) : State := { s with regs := { s.regs with pc := v } }

/-- `r16[p]` (R146). -/
def State.reg16 (s : State) : Reg16 → Word
  | .bc => s.bc | .de => s.de | .hl => s.hl | .sp => s.regs.sp

/-- `r16[p] <- v`. -/
def State.setReg16 (s : State) (p : Reg16) (v : Word) : State :=
  match p with
  | .bc => s.setBc v | .de => s.setDe v | .hl => s.setHl v | .sp => s.setSp v

/-- `r16s[p]` (R146). -/
def State.reg16s (s : State) : Reg16s → Word
  | .bc => s.bc | .de => s.de | .hl => s.hl | .af => s.af

/-- `r16s[p] <- v`. -/
def State.setReg16s (s : State) (p : Reg16s) (v : Word) : State :=
  match p with
  | .bc => s.setBc v | .de => s.setDe v | .hl => s.setHl v | .af => s.setAf v

/-! ## Addresses and the flag bits -/

/-- `0xFF00 + offset`, the page of `LDH` (R150). -/
def highPage (offset : Byte) : Word := wordOf 0xFF offset

/-- `F.Z` (R23). -/
def State.flagZ (s : State) : Bool := s.regs.f.getLsbD 7
/-- `F.N` (R23). -/
def State.flagN (s : State) : Bool := s.regs.f.getLsbD 6
/-- `F.H` (R23). -/
def State.flagH (s : State) : Bool := s.regs.f.getLsbD 5
/-- `F.C` (R23). -/
def State.flagC (s : State) : Bool := s.regs.f.getLsbD 4

/-- A condition on the flags (R147). -/
def State.holds (s : State) : Cond → Bool
  | .nz => !s.flagZ | .z => s.flagZ | .nc => !s.flagC | .c => s.flagC

end Sys2Proof.Machine
end

