-- ==== Sys2Proof/Machine/Flags.lean ====
section
/-! DEFINITION. Every flag computation: the adders of spec/42_alu8.md R215, logic, DAA (R244), the 16-bit sums
(spec/43_alu16.md R250, spec/41_load16.md R203), the rotates and shifts of spec/44_rotate_shift_bit.md R259. -/

namespace Sys2Proof.Machine

/-- The byte of `F` with these four flags: bits 7, 6, 5, 4 and a low nibble of 0 (R23). -/
def packFlags (z n h c : Bool) : Byte :=
  BitVec.ofBool z ++ BitVec.ofBool n ++ BitVec.ofBool h ++ BitVec.ofBool c ++ 0#4

/-- Write all four flags. -/
def State.setFlags (s : State) (z n h c : Bool) : State := { s with regs := { s.regs with f := packFlags z n h c } }

/-- A result byte with the flags an operation computes. -/
structure AluResult where
  r : Byte
  z : Bool
  h : Bool
  c : Bool
  deriving DecidableEq, Repr

/-- `add8(a, x, cin)` (R215). -/
def add8 (a x : Byte) (cin : Bool) : AluResult :=
  let s := a.toNat + x.toNat + cin.toNat
  { r := BitVec.ofNat 8 s, z := s % 256 = 0, h := 0x0F < a.toNat % 16 + x.toNat % 16 + cin.toNat, c := 0xFF < s }

/-- `sub8(a, x, bin)` (R215). -/
def sub8 (a x : Byte) (bin : Bool) : AluResult :=
  let d : Int := (a.toNat : Int) - x.toNat - bin.toNat
  { r := BitVec.ofInt 8 d, z := d % 256 = 0,
    h := ((a.toNat % 16 : Nat) : Int) - (x.toNat % 16 : Nat) - bin.toNat < 0, c := d < 0 }

/-- What an ALU operation does: the byte written to `A` (none for `CP`) and the four flags. -/
structure AluEffect where
  a : Option Byte
  z : Bool
  n : Bool
  h : Bool
  c : Bool
  deriving DecidableEq, Repr

/-- The effect of a logic operation: Z from the result, N 0, the given H, C 0 (R228, R231, R234). -/
def logicEffect (r : Byte) (h : Bool) : AluEffect := { a := some r, z := r = 0, n := false, h := h, c := false }

/-- The eight ALU operations on `A` and an operand, with the old carry (R216 to R239). -/
def aluEffect (op : AluOp) (a x : Byte) (carry : Bool) : AluEffect :=
  let ofAdd (v : AluResult) : AluEffect := { a := some v.r, z := v.z, n := false, h := v.h, c := v.c }
  let ofSub (v : AluResult) : AluEffect := { a := some v.r, z := v.z, n := true, h := v.h, c := v.c }
  match op with
  | .add => ofAdd (add8 a x false)
  | .adc => ofAdd (add8 a x carry)
  | .sub => ofSub (sub8 a x false)
  | .sbc => ofSub (sub8 a x carry)
  | .and => logicEffect (a &&& x) true
  | .xor => logicEffect (a ^^^ x) false
  | .or => logicEffect (a ||| x) false
  | .cp => { ofSub (sub8 a x false) with a := none }

/-- `A` and `F` after `DAA` (R244): both tests of the addition branch use `A` before adjustment. -/
def daaResult (a : Byte) (n h c : Bool) : Byte × Bool :=
  if !n then
    let low : Byte := if h ∨ 0x09 < a.toNat % 16 then 0x06 else 0x00
    let high : Bool := c || 0x99 < a.toNat
    (a + (low + if high then 0x60 else 0x00), high)
  else
    let adj : Byte := (if h then 0x06 else 0x00) + (if c then 0x60 else 0x00)
    (a - adj, c)

/-- H of a 16-bit addition: carry out of bit 11 (R250). -/
def add16H (x y : Word) : Bool := 0x0FFF < x.toNat % 0x1000 + y.toNat % 0x1000

/-- C of a 16-bit addition: carry out of bit 15 (R250). -/
def add16C (x y : Word) : Bool := 0xFFFF < x.toNat + y.toNat

/-- H of SP plus a displacement byte: carry out of bit 3 of the unsigned bytes (R203, R253). -/
def addSpH (sp : Word) (e8 : Byte) : Bool := 0x0F < sp.toNat % 16 + e8.toNat % 16

/-- C of SP plus a displacement byte: carry out of bit 7 of the unsigned bytes (R203, R253). -/
def addSpC (sp : Word) (e8 : Byte) : Bool := 0xFF < sp.toNat % 256 + e8.toNat

/-! ## Rotates and shifts (R259): the result byte and the carry out -/

/-- `rlc(v)`. -/
def rlc8 (v : Byte) : Byte × Bool := (v.extractLsb' 0 7 ++ v.extractLsb' 7 1, v.getLsbD 7)
/-- `rrc(v)`. -/
def rrc8 (v : Byte) : Byte × Bool := (v.extractLsb' 0 1 ++ v.extractLsb' 1 7, v.getLsbD 0)
/-- `rl(v, cin)`. -/
def rl8 (v : Byte) (cin : Bool) : Byte × Bool := (v.extractLsb' 0 7 ++ BitVec.ofBool cin, v.getLsbD 7)
/-- `rr(v, cin)`. -/
def rr8 (v : Byte) (cin : Bool) : Byte × Bool := (BitVec.ofBool cin ++ v.extractLsb' 1 7, v.getLsbD 0)
/-- `sla(v)`. -/
def sla8 (v : Byte) : Byte × Bool := (v.extractLsb' 0 7 ++ 0#1, v.getLsbD 7)
/-- `sra(v)`: bit 7 is kept. -/
def sra8 (v : Byte) : Byte × Bool := (v.extractLsb' 7 1 ++ v.extractLsb' 1 7, v.getLsbD 0)
/-- `srl(v)`. -/
def srl8 (v : Byte) : Byte × Bool := (0#1 ++ v.extractLsb' 1 7, v.getLsbD 0)
/-- `swap(v)`: the carry is 0. -/
def swap8 (v : Byte) : Byte × Bool := (v.extractLsb' 0 4 ++ v.extractLsb' 4 4, false)

/-- The eight operations of the 0xCB page (R149). -/
def shiftResult (op : ShiftOp) (v : Byte) (carry : Bool) : Byte × Bool :=
  match op with
  | .rlc => rlc8 v
  | .rrc => rrc8 v
  | .rl => rl8 v carry
  | .rr => rr8 v carry
  | .sla => sla8 v
  | .sra => sra8 v
  | .swap => swap8 v
  | .srl => srl8 v

/-- `1 << b`. -/
def bitMask (b : BitVec 3) : Byte := 1#8 <<< b.toNat

end Sys2Proof.Machine
end

