-- ==== Sys2Proof/Machine/Ops.lean ====
section
/-! DEFINITION. The shared operations: the advance past an instruction, the stack, the one exception, interrupt entry and
the return from it (spec/10_state.md R28, R29; spec/60_exceptions.md R326, R333, R335). -/

namespace Sys2Proof.Machine

/-! ## Past the instruction -/

/-- `pcn`: the address of the next sequential instruction, one less when the HALT bug makes the first byte be read
twice (R29, R142, R311). -/
def State.nextPc (s : State) (length : Nat) : Word :=
  s.regs.pc + BitVec.ofNat 16 length - (if s.ctl.haltBug then 1 else 0)

/-- What every instruction does around its own effect (log entry 17): `PC <- pcn`, `halt_bug <- 0`, `clock <- clock + cycles`
(R13, R38, R311). A control transfer writes PC afterwards. -/
def State.advance (s : State) (length cycles : Nat) : State :=
  { s with regs := { s.regs with pc := s.nextPc length }, ctl := { s.ctl with haltBug := false },
           clock := s.clock + cycles }

/-! ## The stack (R28, R207, R208) -/

/-- Push one byte: `SP <- SP - 1; MemWrite(SP, 1, v)`. -/
def pushByte (v : Byte) (s : State) : State :=
  let s := s.setSp (s.regs.sp - 1)
  busWrite s s.regs.sp v

/-- Push a 16-bit value: the high byte first, at the higher address (R207). -/
def push16 (v : Word) (s : State) : State := pushByte (loByte v) (pushByte (hiByte v) s)

/-- The value of a pop: `MemRead(SP, 1)`, then `MemRead(SP + 1, 1)` (R208). -/
def popValue (s : State) : Word :=
  wordOf (busRead (afterRead s s.regs.sp) (s.regs.sp + 1)) (busRead s s.regs.sp)

/-- The state after a pop: both reads made, `SP` two higher (R208). -/
def afterPop (s : State) : State :=
  (afterRead (afterRead s s.regs.sp) (s.regs.sp + 1)).setSp (s.regs.sp + 2)

/-! ## Exceptions and interrupts -/

/-- `raise IllegalOpcode(op, pc0)` (R326): the one exception. No handler, no vector: the machine stops with `faulted`
set, PC at `pc0`, no register, flag or memory byte changed and no cycle added. The outcome is a fault that carries
that state (log entry 12). `halt_bug` too is left as it is, though R311 clears it at a fetch: a DESIGN CHOICE where the
byte fetched under the HALT bug is illegal (log entry 21). -/
def raiseIllegalOpcode (op : Byte) (s : State) : Result :=
  .fault (.illegalOpcode op s.regs.pc { s with ctl := { s.ctl with faulted := some ⟨op, s.regs.pc⟩ } })

/-- The lowest `i` in 0..4 with `pending[i] = 1` (R329, R333); 4 when none of 0..3 is set. -/
def lowestPending (pending : Byte) : BitVec 3 :=
  if pending.getLsbD 0 then 0 else if pending.getLsbD 1 then 1 else if pending.getLsbD 2 then 2
  else if pending.getLsbD 3 then 3 else 4

/-- The vector of an interrupt source: 0x0040 + 8 i (R327, R333). -/
def interruptVector (i : BitVec 3) : Word := 0x0040 + 8 * i.setWidth 16

/-- The return address an interrupt entry pushes: into the `HALT` when its bug is pending (R333). -/
def interruptReturn (s : State) : Word := if s.ctl.haltBug then s.regs.pc - 1 else s.regs.pc

/-- `InterruptEntry(pending)` and its 20 cycles (R333): acknowledge, mask, push the return address, go to the vector. -/
def interruptEntry (pending : Byte) (s : State) : State :=
  let i := lowestPending pending
  let ret := interruptReturn s
  let s := { s with board := rawWrite s.board Io.if_ (rawRead s.board Io.if_ &&& ~~~(bitMask i)) }
  let s := { s with ctl := { s.ctl with haltBug := false, ime := false, imeSched := false } }
  let s := (push16 ret s).setPc (interruptVector i)
  { s with clock := s.clock + 20 }

/-- The return from an interrupt (R300, R335): pop PC, and `IME <- 1` at once. -/
def returnFromInterrupt (s : State) : State :=
  let target := popValue s
  let s := (afterPop s).setPc target
  { s with ctl := { s.ctl with ime := true, imeSched := false } }

end Sys2Proof.Machine
end

