-- ==== Sys2Proof/Machine/Alu16.lean ====
section
/-! DEFINITION. The meanings of 16-bit arithmetic (spec/43_alu16.md R249 to R253): the shared
operations of the family, then one definition per instruction. -/

namespace Sys2Proof.Machine

/-- `ADD HL,r16`: Z kept (R250). -/
def addHlR16 (p : Reg16) (s : State) : Result :=
  let s := s.advance 1 8
  let v := s.reg16 p
  .next ((s.setHl (s.hl + v)).setFlags s.flagZ false (add16H s.hl v) (add16C s.hl v))

/-- `INC r16`: no flag (R251). -/
def incR16 (p : Reg16) (s : State) : Result := .next ((s.advance 1 8).setReg16 p (s.reg16 p + 1))

/-- `DEC r16`: no flag (R252). -/
def decR16 (p : Reg16) (s : State) : Result := .next ((s.advance 1 8).setReg16 p (s.reg16 p - 1))

/-- `ADD SP,e8` (R253). -/
def addSpE8 (e8 : Byte) (s : State) : Result :=
  .next (((s.advance 2 16).setSp (s.regs.sp + sext16 e8)).setFlags false false (addSpH s.regs.sp e8) (addSpC s.regs.sp e8))

/-! ## The instructions -/

/-- `INC BC` (R251). -/
def execIncBc (s : State) : Result := incR16 .bc s

/-- `ADD HL,BC` (R250). -/
def execAddHlBc (s : State) : Result := addHlR16 .bc s

/-- `DEC BC` (R252). -/
def execDecBc (s : State) : Result := decR16 .bc s

/-- `INC DE` (R251). -/
def execIncDe (s : State) : Result := incR16 .de s

/-- `ADD HL,DE` (R250). -/
def execAddHlDe (s : State) : Result := addHlR16 .de s

/-- `DEC DE` (R252). -/
def execDecDe (s : State) : Result := decR16 .de s

/-- `INC HL` (R251). -/
def execIncHl (s : State) : Result := incR16 .hl s

/-- `ADD HL,HL` (R250). -/
def execAddHlHl (s : State) : Result := addHlR16 .hl s

/-- `DEC HL` (R252). -/
def execDecHl (s : State) : Result := decR16 .hl s

/-- `INC SP` (R251). -/
def execIncSp (s : State) : Result := incR16 .sp s

/-- `ADD HL,SP` (R250). -/
def execAddHlSp (s : State) : Result := addHlR16 .sp s

/-- `DEC SP` (R252). -/
def execDecSp (s : State) : Result := decR16 .sp s

/-- `ADD SP,e8` (R253). -/
def execAddSpE8 (e8 : Byte) (s : State) : Result := addSpE8 e8 s

end Sys2Proof.Machine
end

