-- ==== Sys2Proof/Machine/Alu8.lean ====
section
/-! DEFINITION. The meanings of 8-bit arithmetic and logic (spec/42_alu8.md R215 to R247): the shared
operations of the family, then one definition per instruction. -/

namespace Sys2Proof.Machine

/-- An ALU operation on `A` and `x` (R216 to R239): the flags, and `A` except for `CP`. -/
def aluApply (op : AluOp) (x : Byte) (s : State) : State :=
  let v := aluEffect op s.regs.a x s.flagC
  let s := s.setFlags v.z v.n v.h v.c
  match v.a with
  | some r => s.setReg .a r
  | none => s

/-- ALU operation with a register operand. -/
def aluReg (op : AluOp) (r : Reg8) (s : State) : Result := .next (aluApply op (s.reg r) (s.advance 1 4))

/-- ALU operation with the byte at `HL`. -/
def aluMhl (op : AluOp) (s : State) : Result :=
  let s := s.advance 1 8
  .next (aluApply op (busRead s s.hl) (afterRead s s.hl))

/-- ALU operation with an immediate. -/
def aluN8 (op : AluOp) (n8 : Byte) (s : State) : Result := .next (aluApply op n8 (s.advance 2 8))

/-- Flags of `INC` of a byte `v`: Z, N 0, H, C kept (R240). -/
def State.incFlags (s : State) (v : Byte) : State := s.setFlags (v + 1 = 0) false (v.toNat % 16 = 0x0F) s.flagC

/-- Flags of `DEC` of a byte `v`: Z, N 1, H, C kept (R242). -/
def State.decFlags (s : State) (v : Byte) : State := s.setFlags (v - 1 = 0) true (v.toNat % 16 = 0x00) s.flagC

/-- `INC r8` (R240). -/
def incReg (r : Reg8) (s : State) : Result :=
  .next (((s.advance 1 4).setReg r (s.reg r + 1)).incFlags (s.reg r))

/-- `DEC r8` (R242). -/
def decReg (r : Reg8) (s : State) : Result :=
  .next (((s.advance 1 4).setReg r (s.reg r - 1)).decFlags (s.reg r))

/-- `INC (HL)`: read, flags from the value read, write (R241, R82). -/
def incMhl (s : State) : Result :=
  let s := s.advance 1 12
  let v := busRead s s.hl
  .next (busWrite ((afterRead s s.hl).incFlags v) s.hl (v + 1))

/-- `DEC (HL)` (R243, R82). -/
def decMhl (s : State) : Result :=
  let s := s.advance 1 12
  let v := busRead s s.hl
  .next (busWrite ((afterRead s s.hl).decFlags v) s.hl (v - 1))

/-- `DAA` (R244). -/
def daa (s : State) : Result :=
  let s := s.advance 1 4
  let v := daaResult s.regs.a s.flagN s.flagH s.flagC
  .next ((s.setReg .a v.1).setFlags (v.1 = 0) s.flagN false v.2)

/-- `CPL` (R245). -/
def cpl (s : State) : Result :=
  let s := s.advance 1 4
  .next ((s.setReg .a (~~~s.regs.a)).setFlags s.flagZ true true s.flagC)

/-- `SCF` (R246). -/
def scf (s : State) : Result :=
  let s := s.advance 1 4
  .next (s.setFlags s.flagZ false false true)

/-- `CCF` (R247). -/
def ccf (s : State) : Result :=
  let s := s.advance 1 4
  .next (s.setFlags s.flagZ false false (!s.flagC))

/-! ## The instructions -/

/-- `INC B` (R240). -/
def execIncB (s : State) : Result := incReg .b s

/-- `DEC B` (R242). -/
def execDecB (s : State) : Result := decReg .b s

/-- `INC C` (R240). -/
def execIncC (s : State) : Result := incReg .c s

/-- `DEC C` (R242). -/
def execDecC (s : State) : Result := decReg .c s

/-- `INC D` (R240). -/
def execIncD (s : State) : Result := incReg .d s

/-- `DEC D` (R242). -/
def execDecD (s : State) : Result := decReg .d s

/-- `INC E` (R240). -/
def execIncE (s : State) : Result := incReg .e s

/-- `DEC E` (R242). -/
def execDecE (s : State) : Result := decReg .e s

/-- `INC H` (R240). -/
def execIncH (s : State) : Result := incReg .h s

/-- `DEC H` (R242). -/
def execDecH (s : State) : Result := decReg .h s

/-- `DAA` (R244). -/
def execDaa (s : State) : Result := daa s

/-- `INC L` (R240). -/
def execIncL (s : State) : Result := incReg .l s

/-- `DEC L` (R242). -/
def execDecL (s : State) : Result := decReg .l s

/-- `CPL` (R245). -/
def execCpl (s : State) : Result := cpl s

/-- `INC (HL)` (R241). -/
def execIncMhl (s : State) : Result := incMhl s

/-- `DEC (HL)` (R243). -/
def execDecMhl (s : State) : Result := decMhl s

/-- `SCF` (R246). -/
def execScf (s : State) : Result := scf s

/-- `INC A` (R240). -/
def execIncA (s : State) : Result := incReg .a s

/-- `DEC A` (R242). -/
def execDecA (s : State) : Result := decReg .a s

/-- `CCF` (R247). -/
def execCcf (s : State) : Result := ccf s

/-- `ADD A,B` (R216). -/
def execAddAB (s : State) : Result := aluReg .add .b s

/-- `ADD A,C` (R216). -/
def execAddAC (s : State) : Result := aluReg .add .c s

/-- `ADD A,D` (R216). -/
def execAddAD (s : State) : Result := aluReg .add .d s

/-- `ADD A,E` (R216). -/
def execAddAE (s : State) : Result := aluReg .add .e s

/-- `ADD A,H` (R216). -/
def execAddAH (s : State) : Result := aluReg .add .h s

/-- `ADD A,L` (R216). -/
def execAddAL (s : State) : Result := aluReg .add .l s

/-- `ADD A,(HL)` (R217). -/
def execAddAMhl (s : State) : Result := aluMhl .add s

/-- `ADD A,A` (R216). -/
def execAddAA (s : State) : Result := aluReg .add .a s

/-- `ADC A,B` (R219). -/
def execAdcAB (s : State) : Result := aluReg .adc .b s

/-- `ADC A,C` (R219). -/
def execAdcAC (s : State) : Result := aluReg .adc .c s

/-- `ADC A,D` (R219). -/
def execAdcAD (s : State) : Result := aluReg .adc .d s

/-- `ADC A,E` (R219). -/
def execAdcAE (s : State) : Result := aluReg .adc .e s

/-- `ADC A,H` (R219). -/
def execAdcAH (s : State) : Result := aluReg .adc .h s

/-- `ADC A,L` (R219). -/
def execAdcAL (s : State) : Result := aluReg .adc .l s

/-- `ADC A,(HL)` (R220). -/
def execAdcAMhl (s : State) : Result := aluMhl .adc s

/-- `ADC A,A` (R219). -/
def execAdcAA (s : State) : Result := aluReg .adc .a s

/-- `SUB B` (R222). -/
def execSubB (s : State) : Result := aluReg .sub .b s

/-- `SUB C` (R222). -/
def execSubC (s : State) : Result := aluReg .sub .c s

/-- `SUB D` (R222). -/
def execSubD (s : State) : Result := aluReg .sub .d s

/-- `SUB E` (R222). -/
def execSubE (s : State) : Result := aluReg .sub .e s

/-- `SUB H` (R222). -/
def execSubH (s : State) : Result := aluReg .sub .h s

/-- `SUB L` (R222). -/
def execSubL (s : State) : Result := aluReg .sub .l s

/-- `SUB (HL)` (R223). -/
def execSubMhl (s : State) : Result := aluMhl .sub s

/-- `SUB A` (R222). -/
def execSubA (s : State) : Result := aluReg .sub .a s

/-- `SBC A,B` (R225). -/
def execSbcAB (s : State) : Result := aluReg .sbc .b s

/-- `SBC A,C` (R225). -/
def execSbcAC (s : State) : Result := aluReg .sbc .c s

/-- `SBC A,D` (R225). -/
def execSbcAD (s : State) : Result := aluReg .sbc .d s

/-- `SBC A,E` (R225). -/
def execSbcAE (s : State) : Result := aluReg .sbc .e s

/-- `SBC A,H` (R225). -/
def execSbcAH (s : State) : Result := aluReg .sbc .h s

/-- `SBC A,L` (R225). -/
def execSbcAL (s : State) : Result := aluReg .sbc .l s

/-- `SBC A,(HL)` (R226). -/
def execSbcAMhl (s : State) : Result := aluMhl .sbc s

/-- `SBC A,A` (R225). -/
def execSbcAA (s : State) : Result := aluReg .sbc .a s

/-- `AND B` (R228). -/
def execAndB (s : State) : Result := aluReg .and .b s

/-- `AND C` (R228). -/
def execAndC (s : State) : Result := aluReg .and .c s

/-- `AND D` (R228). -/
def execAndD (s : State) : Result := aluReg .and .d s

/-- `AND E` (R228). -/
def execAndE (s : State) : Result := aluReg .and .e s

/-- `AND H` (R228). -/
def execAndH (s : State) : Result := aluReg .and .h s

/-- `AND L` (R228). -/
def execAndL (s : State) : Result := aluReg .and .l s

/-- `AND (HL)` (R229). -/
def execAndMhl (s : State) : Result := aluMhl .and s

/-- `AND A` (R228). -/
def execAndA (s : State) : Result := aluReg .and .a s

/-- `XOR B` (R231). -/
def execXorB (s : State) : Result := aluReg .xor .b s

/-- `XOR C` (R231). -/
def execXorC (s : State) : Result := aluReg .xor .c s

/-- `XOR D` (R231). -/
def execXorD (s : State) : Result := aluReg .xor .d s

/-- `XOR E` (R231). -/
def execXorE (s : State) : Result := aluReg .xor .e s

/-- `XOR H` (R231). -/
def execXorH (s : State) : Result := aluReg .xor .h s

/-- `XOR L` (R231). -/
def execXorL (s : State) : Result := aluReg .xor .l s

/-- `XOR (HL)` (R232). -/
def execXorMhl (s : State) : Result := aluMhl .xor s

/-- `XOR A` (R231). -/
def execXorA (s : State) : Result := aluReg .xor .a s

/-- `OR B` (R234). -/
def execOrB (s : State) : Result := aluReg .or .b s

/-- `OR C` (R234). -/
def execOrC (s : State) : Result := aluReg .or .c s

/-- `OR D` (R234). -/
def execOrD (s : State) : Result := aluReg .or .d s

/-- `OR E` (R234). -/
def execOrE (s : State) : Result := aluReg .or .e s

/-- `OR H` (R234). -/
def execOrH (s : State) : Result := aluReg .or .h s

/-- `OR L` (R234). -/
def execOrL (s : State) : Result := aluReg .or .l s

/-- `OR (HL)` (R235). -/
def execOrMhl (s : State) : Result := aluMhl .or s

/-- `OR A` (R234). -/
def execOrA (s : State) : Result := aluReg .or .a s

/-- `CP B` (R237). -/
def execCpB (s : State) : Result := aluReg .cp .b s

/-- `CP C` (R237). -/
def execCpC (s : State) : Result := aluReg .cp .c s

/-- `CP D` (R237). -/
def execCpD (s : State) : Result := aluReg .cp .d s

/-- `CP E` (R237). -/
def execCpE (s : State) : Result := aluReg .cp .e s

/-- `CP H` (R237). -/
def execCpH (s : State) : Result := aluReg .cp .h s

/-- `CP L` (R237). -/
def execCpL (s : State) : Result := aluReg .cp .l s

/-- `CP (HL)` (R238). -/
def execCpMhl (s : State) : Result := aluMhl .cp s

/-- `CP A` (R237). -/
def execCpA (s : State) : Result := aluReg .cp .a s

/-- `ADD A,n8` (R218). -/
def execAddAN8 (n8 : Byte) (s : State) : Result := aluN8 .add n8 s

/-- `ADC A,n8` (R221). -/
def execAdcAN8 (n8 : Byte) (s : State) : Result := aluN8 .adc n8 s

/-- `SUB n8` (R224). -/
def execSubN8 (n8 : Byte) (s : State) : Result := aluN8 .sub n8 s

/-- `SBC A,n8` (R227). -/
def execSbcAN8 (n8 : Byte) (s : State) : Result := aluN8 .sbc n8 s

/-- `AND n8` (R230). -/
def execAndN8 (n8 : Byte) (s : State) : Result := aluN8 .and n8 s

/-- `XOR n8` (R233). -/
def execXorN8 (n8 : Byte) (s : State) : Result := aluN8 .xor n8 s

/-- `OR n8` (R236). -/
def execOrN8 (n8 : Byte) (s : State) : Result := aluN8 .or n8 s

/-- `CP n8` (R239). -/
def execCpN8 (n8 : Byte) (s : State) : Result := aluN8 .cp n8 s

end Sys2Proof.Machine
end

