-- ==== Sys2Proof/Machine/ControlFlow.lean ====
section
/-! DEFINITION. The meanings of control transfers (spec/45_control_flow.md R290 to R303). No flag changes (R290): the shared
operations of the family, then one definition per instruction. -/

namespace Sys2Proof.Machine

/-- `JP a16` (R291). -/
def jp (a16 : Word) (s : State) : Result := .next ((s.advance 3 16).setPc a16)

/-- `JP cc,a16` (R292). -/
def jpCc (cc : Cond) (a16 : Word) (s : State) : Result :=
  if s.holds cc then .next ((s.advance 3 16).setPc a16) else .next (s.advance 3 12)

/-- `JP HL` (R293). -/
def jpHl (s : State) : Result := .next ((s.advance 1 4).setPc s.hl)

/-- `PC <- pcn + sext_16(e8)`, after the advance (R294). -/
def State.jumpBy (s : State) (e8 : Byte) : State := s.setPc (s.regs.pc + sext16 e8)

/-- `JR e8` (R294). -/
def jr (e8 : Byte) (s : State) : Result := .next ((s.advance 2 12).jumpBy e8)

/-- `JR cc,e8` (R295). -/
def jrCc (cc : Cond) (e8 : Byte) (s : State) : Result :=
  if s.holds cc then .next ((s.advance 2 12).jumpBy e8) else .next (s.advance 2 8)

/-- Push `pcn` and go to the target, after the advance (R296). -/
def State.callTo (s : State) (target : Word) : State := (push16 s.regs.pc s).setPc target

/-- `CALL a16` (R296). -/
def call (a16 : Word) (s : State) : Result := .next ((s.advance 3 24).callTo a16)

/-- `CALL cc,a16` (R297). -/
def callCc (cc : Cond) (a16 : Word) (s : State) : Result :=
  if s.holds cc then .next ((s.advance 3 24).callTo a16) else .next (s.advance 3 12)

/-- Pop PC, after the advance (R298). -/
def State.returnTo (s : State) : State := (afterPop s).setPc (popValue s)

/-- `RET` (R298). -/
def ret (s : State) : Result := .next (s.advance 1 16).returnTo

/-- `RET cc` (R299). -/
def retCc (cc : Cond) (s : State) : Result :=
  if s.holds cc then .next (s.advance 1 20).returnTo else .next (s.advance 1 8)

/-- `RETI` (R300). -/
def reti (s : State) : Result := .next (returnFromInterrupt (s.advance 1 16))

/-- `RST vec`, `vec = 8 t` (R303). -/
def rst (t : BitVec 3) (s : State) : Result := .next ((s.advance 1 16).callTo (8 * t.setWidth 16))

/-! ## The instructions -/

/-- `JR e8` (R294). -/
def execJrE8 (e8 : Byte) (s : State) : Result := jr e8 s

/-- `JR NZ,e8` (R295). -/
def execJrNzE8 (e8 : Byte) (s : State) : Result := jrCc .nz e8 s

/-- `JR Z,e8` (R295). -/
def execJrZE8 (e8 : Byte) (s : State) : Result := jrCc .z e8 s

/-- `JR NC,e8` (R295). -/
def execJrNcE8 (e8 : Byte) (s : State) : Result := jrCc .nc e8 s

/-- `JR C,e8` (R295). -/
def execJrCE8 (e8 : Byte) (s : State) : Result := jrCc .c e8 s

/-- `RET NZ` (R299). -/
def execRetNz (s : State) : Result := retCc .nz s

/-- `JP NZ,a16` (R292). -/
def execJpNzA16 (a16 : Word) (s : State) : Result := jpCc .nz a16 s

/-- `JP a16` (R291). -/
def execJpA16 (a16 : Word) (s : State) : Result := jp a16 s

/-- `CALL NZ,a16` (R297). -/
def execCallNzA16 (a16 : Word) (s : State) : Result := callCc .nz a16 s

/-- `RST 0x00` (R303). -/
def execRst00 (s : State) : Result := rst 0 s

/-- `RET Z` (R299). -/
def execRetZ (s : State) : Result := retCc .z s

/-- `RET` (R298). -/
def execRet (s : State) : Result := ret s

/-- `JP Z,a16` (R292). -/
def execJpZA16 (a16 : Word) (s : State) : Result := jpCc .z a16 s

/-- `CALL Z,a16` (R297). -/
def execCallZA16 (a16 : Word) (s : State) : Result := callCc .z a16 s

/-- `CALL a16` (R296). -/
def execCallA16 (a16 : Word) (s : State) : Result := call a16 s

/-- `RST 0x08` (R303). -/
def execRst08 (s : State) : Result := rst 1 s

/-- `RET NC` (R299). -/
def execRetNc (s : State) : Result := retCc .nc s

/-- `JP NC,a16` (R292). -/
def execJpNcA16 (a16 : Word) (s : State) : Result := jpCc .nc a16 s

/-- `CALL NC,a16` (R297). -/
def execCallNcA16 (a16 : Word) (s : State) : Result := callCc .nc a16 s

/-- `RST 0x10` (R303). -/
def execRst10 (s : State) : Result := rst 2 s

/-- `RET C` (R299). -/
def execRetC (s : State) : Result := retCc .c s

/-- `RETI` (R300). -/
def execReti (s : State) : Result := reti s

/-- `JP C,a16` (R292). -/
def execJpCA16 (a16 : Word) (s : State) : Result := jpCc .c a16 s

/-- `CALL C,a16` (R297). -/
def execCallCA16 (a16 : Word) (s : State) : Result := callCc .c a16 s

/-- `RST 0x18` (R303). -/
def execRst18 (s : State) : Result := rst 3 s

/-- `RST 0x20` (R303). -/
def execRst20 (s : State) : Result := rst 4 s

/-- `JP HL` (R293). -/
def execJpHl (s : State) : Result := jpHl s

/-- `RST 0x28` (R303). -/
def execRst28 (s : State) : Result := rst 5 s

/-- `RST 0x30` (R303). -/
def execRst30 (s : State) : Result := rst 6 s

/-- `RST 0x38` (R303). -/
def execRst38 (s : State) : Result := rst 7 s

end Sys2Proof.Machine
end

