-- ==== Sys2Proof/Machine/RotateShiftBit.lean ====
section
/-! DEFINITION. The meanings of rotates, shifts and bit operations (spec/44_rotate_shift_bit.md R259 to R286): the shared
operations of the family, then one definition per instruction. -/

namespace Sys2Proof.Machine

/-- The four accumulator rotates: Z, N and H always 0 (R260 to R263). -/
def rotateA (v : Byte × Bool) (s : State) : Result :=
  .next (((s.advance 1 4).setReg .a v.1).setFlags false false false v.2)

/-- `RLCA` (R260). -/
def rlca (s : State) : Result := rotateA (rlc8 s.regs.a) s

/-- `RRCA` (R261). -/
def rrca (s : State) : Result := rotateA (rrc8 s.regs.a) s

/-- `RLA` (R262). -/
def rla (s : State) : Result := rotateA (rl8 s.regs.a s.flagC) s

/-- `RRA` (R263). -/
def rra (s : State) : Result := rotateA (rr8 s.regs.a s.flagC) s

/-- Flags of a 0xCB rotate or shift: Z from the result, N and H 0, C the carry out (R265). -/
def State.shiftFlags (s : State) (v : Byte × Bool) : State := s.setFlags (v.1 = 0) false false v.2

/-- 0xCB rotate or shift of a register (R265 to R279). -/
def shiftReg (op : ShiftOp) (r : Reg8) (s : State) : Result :=
  let v := shiftResult op (s.reg r) s.flagC
  .next (((s.advance 2 8).setReg r v.1).shiftFlags v)

/-- 0xCB rotate or shift of the byte at `HL`: read, compute, write (R266 to R280, R82). -/
def shiftMhl (op : ShiftOp) (s : State) : Result :=
  let s := s.advance 2 16
  let v := shiftResult op (busRead s s.hl) s.flagC
  .next (busWrite ((afterRead s s.hl).shiftFlags v) s.hl v.1)

/-- Flags of `BIT` on a byte `v`: Z the complement of the bit, N 0, H 1, C kept (R281). -/
def State.bitFlags (s : State) (bit : BitVec 3) (v : Byte) : State :=
  s.setFlags (!v.getLsbD bit.toNat) false true s.flagC

/-- `BIT b,r8` (R281). -/
def bitReg (bit : BitVec 3) (r : Reg8) (s : State) : Result := .next ((s.advance 2 8).bitFlags bit (s.reg r))

/-- `BIT b,(HL)`: no write (R282). -/
def bitMhl (bit : BitVec 3) (s : State) : Result :=
  let s := s.advance 2 12
  .next ((afterRead s s.hl).bitFlags bit (busRead s s.hl))

/-- `RES b,r8` (R283). -/
def resReg (bit : BitVec 3) (r : Reg8) (s : State) : Result :=
  .next ((s.advance 2 8).setReg r (s.reg r &&& ~~~(bitMask bit)))

/-- `SET b,r8` (R285). -/
def setBitReg (bit : BitVec 3) (r : Reg8) (s : State) : Result :=
  .next ((s.advance 2 8).setReg r (s.reg r ||| bitMask bit))

/-- `RES b,(HL)`: the write happens even when the byte does not change (R284). -/
def resMhl (bit : BitVec 3) (s : State) : Result :=
  let s := s.advance 2 16
  .next (busWrite (afterRead s s.hl) s.hl (busRead s s.hl &&& ~~~(bitMask bit)))

/-- `SET b,(HL)` (R286). -/
def setBitMhl (bit : BitVec 3) (s : State) : Result :=
  let s := s.advance 2 16
  .next (busWrite (afterRead s s.hl) s.hl (busRead s s.hl ||| bitMask bit))

/-! ## The instructions -/

/-- `RLCA` (R260). -/
def execRlca (s : State) : Result := rlca s

/-- `RRCA` (R261). -/
def execRrca (s : State) : Result := rrca s

/-- `RLA` (R262). -/
def execRla (s : State) : Result := rla s

/-- `RRA` (R263). -/
def execRra (s : State) : Result := rra s

/-- `RLC B` (R265). -/
def execRlcB (s : State) : Result := shiftReg .rlc .b s

/-- `RLC C` (R265). -/
def execRlcC (s : State) : Result := shiftReg .rlc .c s

/-- `RLC D` (R265). -/
def execRlcD (s : State) : Result := shiftReg .rlc .d s

/-- `RLC E` (R265). -/
def execRlcE (s : State) : Result := shiftReg .rlc .e s

/-- `RLC H` (R265). -/
def execRlcH (s : State) : Result := shiftReg .rlc .h s

/-- `RLC L` (R265). -/
def execRlcL (s : State) : Result := shiftReg .rlc .l s

/-- `RLC (HL)` (R266). -/
def execRlcMhl (s : State) : Result := shiftMhl .rlc s

/-- `RLC A` (R265). -/
def execRlcA (s : State) : Result := shiftReg .rlc .a s

/-- `RRC B` (R267). -/
def execRrcB (s : State) : Result := shiftReg .rrc .b s

/-- `RRC C` (R267). -/
def execRrcC (s : State) : Result := shiftReg .rrc .c s

/-- `RRC D` (R267). -/
def execRrcD (s : State) : Result := shiftReg .rrc .d s

/-- `RRC E` (R267). -/
def execRrcE (s : State) : Result := shiftReg .rrc .e s

/-- `RRC H` (R267). -/
def execRrcH (s : State) : Result := shiftReg .rrc .h s

/-- `RRC L` (R267). -/
def execRrcL (s : State) : Result := shiftReg .rrc .l s

/-- `RRC (HL)` (R268). -/
def execRrcMhl (s : State) : Result := shiftMhl .rrc s

/-- `RRC A` (R267). -/
def execRrcA (s : State) : Result := shiftReg .rrc .a s

/-- `RL B` (R269). -/
def execRlB (s : State) : Result := shiftReg .rl .b s

/-- `RL C` (R269). -/
def execRlC (s : State) : Result := shiftReg .rl .c s

/-- `RL D` (R269). -/
def execRlD (s : State) : Result := shiftReg .rl .d s

/-- `RL E` (R269). -/
def execRlE (s : State) : Result := shiftReg .rl .e s

/-- `RL H` (R269). -/
def execRlH (s : State) : Result := shiftReg .rl .h s

/-- `RL L` (R269). -/
def execRlL (s : State) : Result := shiftReg .rl .l s

/-- `RL (HL)` (R270). -/
def execRlMhl (s : State) : Result := shiftMhl .rl s

/-- `RL A` (R269). -/
def execRlA (s : State) : Result := shiftReg .rl .a s

/-- `RR B` (R271). -/
def execRrB (s : State) : Result := shiftReg .rr .b s

/-- `RR C` (R271). -/
def execRrC (s : State) : Result := shiftReg .rr .c s

/-- `RR D` (R271). -/
def execRrD (s : State) : Result := shiftReg .rr .d s

/-- `RR E` (R271). -/
def execRrE (s : State) : Result := shiftReg .rr .e s

/-- `RR H` (R271). -/
def execRrH (s : State) : Result := shiftReg .rr .h s

/-- `RR L` (R271). -/
def execRrL (s : State) : Result := shiftReg .rr .l s

/-- `RR (HL)` (R272). -/
def execRrMhl (s : State) : Result := shiftMhl .rr s

/-- `RR A` (R271). -/
def execRrA (s : State) : Result := shiftReg .rr .a s

/-- `SLA B` (R273). -/
def execSlaB (s : State) : Result := shiftReg .sla .b s

/-- `SLA C` (R273). -/
def execSlaC (s : State) : Result := shiftReg .sla .c s

/-- `SLA D` (R273). -/
def execSlaD (s : State) : Result := shiftReg .sla .d s

/-- `SLA E` (R273). -/
def execSlaE (s : State) : Result := shiftReg .sla .e s

/-- `SLA H` (R273). -/
def execSlaH (s : State) : Result := shiftReg .sla .h s

/-- `SLA L` (R273). -/
def execSlaL (s : State) : Result := shiftReg .sla .l s

/-- `SLA (HL)` (R274). -/
def execSlaMhl (s : State) : Result := shiftMhl .sla s

/-- `SLA A` (R273). -/
def execSlaA (s : State) : Result := shiftReg .sla .a s

/-- `SRA B` (R275). -/
def execSraB (s : State) : Result := shiftReg .sra .b s

/-- `SRA C` (R275). -/
def execSraC (s : State) : Result := shiftReg .sra .c s

/-- `SRA D` (R275). -/
def execSraD (s : State) : Result := shiftReg .sra .d s

/-- `SRA E` (R275). -/
def execSraE (s : State) : Result := shiftReg .sra .e s

/-- `SRA H` (R275). -/
def execSraH (s : State) : Result := shiftReg .sra .h s

/-- `SRA L` (R275). -/
def execSraL (s : State) : Result := shiftReg .sra .l s

/-- `SRA (HL)` (R276). -/
def execSraMhl (s : State) : Result := shiftMhl .sra s

/-- `SRA A` (R275). -/
def execSraA (s : State) : Result := shiftReg .sra .a s

/-- `SWAP B` (R277). -/
def execSwapB (s : State) : Result := shiftReg .swap .b s

/-- `SWAP C` (R277). -/
def execSwapC (s : State) : Result := shiftReg .swap .c s

/-- `SWAP D` (R277). -/
def execSwapD (s : State) : Result := shiftReg .swap .d s

/-- `SWAP E` (R277). -/
def execSwapE (s : State) : Result := shiftReg .swap .e s

/-- `SWAP H` (R277). -/
def execSwapH (s : State) : Result := shiftReg .swap .h s

/-- `SWAP L` (R277). -/
def execSwapL (s : State) : Result := shiftReg .swap .l s

/-- `SWAP (HL)` (R278). -/
def execSwapMhl (s : State) : Result := shiftMhl .swap s

/-- `SWAP A` (R277). -/
def execSwapA (s : State) : Result := shiftReg .swap .a s

/-- `SRL B` (R279). -/
def execSrlB (s : State) : Result := shiftReg .srl .b s

/-- `SRL C` (R279). -/
def execSrlC (s : State) : Result := shiftReg .srl .c s

/-- `SRL D` (R279). -/
def execSrlD (s : State) : Result := shiftReg .srl .d s

/-- `SRL E` (R279). -/
def execSrlE (s : State) : Result := shiftReg .srl .e s

/-- `SRL H` (R279). -/
def execSrlH (s : State) : Result := shiftReg .srl .h s

/-- `SRL L` (R279). -/
def execSrlL (s : State) : Result := shiftReg .srl .l s

/-- `SRL (HL)` (R280). -/
def execSrlMhl (s : State) : Result := shiftMhl .srl s

/-- `SRL A` (R279). -/
def execSrlA (s : State) : Result := shiftReg .srl .a s

/-- `BIT 0,B` (R281). -/
def execBit0B (s : State) : Result := bitReg 0 .b s

/-- `BIT 0,C` (R281). -/
def execBit0C (s : State) : Result := bitReg 0 .c s

/-- `BIT 0,D` (R281). -/
def execBit0D (s : State) : Result := bitReg 0 .d s

/-- `BIT 0,E` (R281). -/
def execBit0E (s : State) : Result := bitReg 0 .e s

/-- `BIT 0,H` (R281). -/
def execBit0H (s : State) : Result := bitReg 0 .h s

/-- `BIT 0,L` (R281). -/
def execBit0L (s : State) : Result := bitReg 0 .l s

/-- `BIT 0,(HL)` (R282). -/
def execBit0Mhl (s : State) : Result := bitMhl 0 s

/-- `BIT 0,A` (R281). -/
def execBit0A (s : State) : Result := bitReg 0 .a s

/-- `BIT 1,B` (R281). -/
def execBit1B (s : State) : Result := bitReg 1 .b s

/-- `BIT 1,C` (R281). -/
def execBit1C (s : State) : Result := bitReg 1 .c s

/-- `BIT 1,D` (R281). -/
def execBit1D (s : State) : Result := bitReg 1 .d s

/-- `BIT 1,E` (R281). -/
def execBit1E (s : State) : Result := bitReg 1 .e s

/-- `BIT 1,H` (R281). -/
def execBit1H (s : State) : Result := bitReg 1 .h s

/-- `BIT 1,L` (R281). -/
def execBit1L (s : State) : Result := bitReg 1 .l s

/-- `BIT 1,(HL)` (R282). -/
def execBit1Mhl (s : State) : Result := bitMhl 1 s

/-- `BIT 1,A` (R281). -/
def execBit1A (s : State) : Result := bitReg 1 .a s

/-- `BIT 2,B` (R281). -/
def execBit2B (s : State) : Result := bitReg 2 .b s

/-- `BIT 2,C` (R281). -/
def execBit2C (s : State) : Result := bitReg 2 .c s

/-- `BIT 2,D` (R281). -/
def execBit2D (s : State) : Result := bitReg 2 .d s

/-- `BIT 2,E` (R281). -/
def execBit2E (s : State) : Result := bitReg 2 .e s

/-- `BIT 2,H` (R281). -/
def execBit2H (s : State) : Result := bitReg 2 .h s

/-- `BIT 2,L` (R281). -/
def execBit2L (s : State) : Result := bitReg 2 .l s

/-- `BIT 2,(HL)` (R282). -/
def execBit2Mhl (s : State) : Result := bitMhl 2 s

/-- `BIT 2,A` (R281). -/
def execBit2A (s : State) : Result := bitReg 2 .a s

/-- `BIT 3,B` (R281). -/
def execBit3B (s : State) : Result := bitReg 3 .b s

/-- `BIT 3,C` (R281). -/
def execBit3C (s : State) : Result := bitReg 3 .c s

/-- `BIT 3,D` (R281). -/
def execBit3D (s : State) : Result := bitReg 3 .d s

/-- `BIT 3,E` (R281). -/
def execBit3E (s : State) : Result := bitReg 3 .e s

/-- `BIT 3,H` (R281). -/
def execBit3H (s : State) : Result := bitReg 3 .h s

/-- `BIT 3,L` (R281). -/
def execBit3L (s : State) : Result := bitReg 3 .l s

/-- `BIT 3,(HL)` (R282). -/
def execBit3Mhl (s : State) : Result := bitMhl 3 s

/-- `BIT 3,A` (R281). -/
def execBit3A (s : State) : Result := bitReg 3 .a s

/-- `BIT 4,B` (R281). -/
def execBit4B (s : State) : Result := bitReg 4 .b s

/-- `BIT 4,C` (R281). -/
def execBit4C (s : State) : Result := bitReg 4 .c s

/-- `BIT 4,D` (R281). -/
def execBit4D (s : State) : Result := bitReg 4 .d s

/-- `BIT 4,E` (R281). -/
def execBit4E (s : State) : Result := bitReg 4 .e s

/-- `BIT 4,H` (R281). -/
def execBit4H (s : State) : Result := bitReg 4 .h s

/-- `BIT 4,L` (R281). -/
def execBit4L (s : State) : Result := bitReg 4 .l s

/-- `BIT 4,(HL)` (R282). -/
def execBit4Mhl (s : State) : Result := bitMhl 4 s

/-- `BIT 4,A` (R281). -/
def execBit4A (s : State) : Result := bitReg 4 .a s

/-- `BIT 5,B` (R281). -/
def execBit5B (s : State) : Result := bitReg 5 .b s

/-- `BIT 5,C` (R281). -/
def execBit5C (s : State) : Result := bitReg 5 .c s

/-- `BIT 5,D` (R281). -/
def execBit5D (s : State) : Result := bitReg 5 .d s

/-- `BIT 5,E` (R281). -/
def execBit5E (s : State) : Result := bitReg 5 .e s

/-- `BIT 5,H` (R281). -/
def execBit5H (s : State) : Result := bitReg 5 .h s

/-- `BIT 5,L` (R281). -/
def execBit5L (s : State) : Result := bitReg 5 .l s

/-- `BIT 5,(HL)` (R282). -/
def execBit5Mhl (s : State) : Result := bitMhl 5 s

/-- `BIT 5,A` (R281). -/
def execBit5A (s : State) : Result := bitReg 5 .a s

/-- `BIT 6,B` (R281). -/
def execBit6B (s : State) : Result := bitReg 6 .b s

/-- `BIT 6,C` (R281). -/
def execBit6C (s : State) : Result := bitReg 6 .c s

/-- `BIT 6,D` (R281). -/
def execBit6D (s : State) : Result := bitReg 6 .d s

/-- `BIT 6,E` (R281). -/
def execBit6E (s : State) : Result := bitReg 6 .e s

/-- `BIT 6,H` (R281). -/
def execBit6H (s : State) : Result := bitReg 6 .h s

/-- `BIT 6,L` (R281). -/
def execBit6L (s : State) : Result := bitReg 6 .l s

/-- `BIT 6,(HL)` (R282). -/
def execBit6Mhl (s : State) : Result := bitMhl 6 s

/-- `BIT 6,A` (R281). -/
def execBit6A (s : State) : Result := bitReg 6 .a s

/-- `BIT 7,B` (R281). -/
def execBit7B (s : State) : Result := bitReg 7 .b s

/-- `BIT 7,C` (R281). -/
def execBit7C (s : State) : Result := bitReg 7 .c s

/-- `BIT 7,D` (R281). -/
def execBit7D (s : State) : Result := bitReg 7 .d s

/-- `BIT 7,E` (R281). -/
def execBit7E (s : State) : Result := bitReg 7 .e s

/-- `BIT 7,H` (R281). -/
def execBit7H (s : State) : Result := bitReg 7 .h s

/-- `BIT 7,L` (R281). -/
def execBit7L (s : State) : Result := bitReg 7 .l s

/-- `BIT 7,(HL)` (R282). -/
def execBit7Mhl (s : State) : Result := bitMhl 7 s

/-- `BIT 7,A` (R281). -/
def execBit7A (s : State) : Result := bitReg 7 .a s

/-- `RES 0,B` (R283). -/
def execRes0B (s : State) : Result := resReg 0 .b s

/-- `RES 0,C` (R283). -/
def execRes0C (s : State) : Result := resReg 0 .c s

/-- `RES 0,D` (R283). -/
def execRes0D (s : State) : Result := resReg 0 .d s

/-- `RES 0,E` (R283). -/
def execRes0E (s : State) : Result := resReg 0 .e s

/-- `RES 0,H` (R283). -/
def execRes0H (s : State) : Result := resReg 0 .h s

/-- `RES 0,L` (R283). -/
def execRes0L (s : State) : Result := resReg 0 .l s

/-- `RES 0,(HL)` (R284). -/
def execRes0Mhl (s : State) : Result := resMhl 0 s

/-- `RES 0,A` (R283). -/
def execRes0A (s : State) : Result := resReg 0 .a s

/-- `RES 1,B` (R283). -/
def execRes1B (s : State) : Result := resReg 1 .b s

/-- `RES 1,C` (R283). -/
def execRes1C (s : State) : Result := resReg 1 .c s

/-- `RES 1,D` (R283). -/
def execRes1D (s : State) : Result := resReg 1 .d s

/-- `RES 1,E` (R283). -/
def execRes1E (s : State) : Result := resReg 1 .e s

/-- `RES 1,H` (R283). -/
def execRes1H (s : State) : Result := resReg 1 .h s

/-- `RES 1,L` (R283). -/
def execRes1L (s : State) : Result := resReg 1 .l s

/-- `RES 1,(HL)` (R284). -/
def execRes1Mhl (s : State) : Result := resMhl 1 s

/-- `RES 1,A` (R283). -/
def execRes1A (s : State) : Result := resReg 1 .a s

/-- `RES 2,B` (R283). -/
def execRes2B (s : State) : Result := resReg 2 .b s

/-- `RES 2,C` (R283). -/
def execRes2C (s : State) : Result := resReg 2 .c s

/-- `RES 2,D` (R283). -/
def execRes2D (s : State) : Result := resReg 2 .d s

/-- `RES 2,E` (R283). -/
def execRes2E (s : State) : Result := resReg 2 .e s

/-- `RES 2,H` (R283). -/
def execRes2H (s : State) : Result := resReg 2 .h s

/-- `RES 2,L` (R283). -/
def execRes2L (s : State) : Result := resReg 2 .l s

/-- `RES 2,(HL)` (R284). -/
def execRes2Mhl (s : State) : Result := resMhl 2 s

/-- `RES 2,A` (R283). -/
def execRes2A (s : State) : Result := resReg 2 .a s

/-- `RES 3,B` (R283). -/
def execRes3B (s : State) : Result := resReg 3 .b s

/-- `RES 3,C` (R283). -/
def execRes3C (s : State) : Result := resReg 3 .c s

/-- `RES 3,D` (R283). -/
def execRes3D (s : State) : Result := resReg 3 .d s

/-- `RES 3,E` (R283). -/
def execRes3E (s : State) : Result := resReg 3 .e s

/-- `RES 3,H` (R283). -/
def execRes3H (s : State) : Result := resReg 3 .h s

/-- `RES 3,L` (R283). -/
def execRes3L (s : State) : Result := resReg 3 .l s

/-- `RES 3,(HL)` (R284). -/
def execRes3Mhl (s : State) : Result := resMhl 3 s

/-- `RES 3,A` (R283). -/
def execRes3A (s : State) : Result := resReg 3 .a s

/-- `RES 4,B` (R283). -/
def execRes4B (s : State) : Result := resReg 4 .b s

/-- `RES 4,C` (R283). -/
def execRes4C (s : State) : Result := resReg 4 .c s

/-- `RES 4,D` (R283). -/
def execRes4D (s : State) : Result := resReg 4 .d s

/-- `RES 4,E` (R283). -/
def execRes4E (s : State) : Result := resReg 4 .e s

/-- `RES 4,H` (R283). -/
def execRes4H (s : State) : Result := resReg 4 .h s

/-- `RES 4,L` (R283). -/
def execRes4L (s : State) : Result := resReg 4 .l s

/-- `RES 4,(HL)` (R284). -/
def execRes4Mhl (s : State) : Result := resMhl 4 s

/-- `RES 4,A` (R283). -/
def execRes4A (s : State) : Result := resReg 4 .a s

/-- `RES 5,B` (R283). -/
def execRes5B (s : State) : Result := resReg 5 .b s

/-- `RES 5,C` (R283). -/
def execRes5C (s : State) : Result := resReg 5 .c s

/-- `RES 5,D` (R283). -/
def execRes5D (s : State) : Result := resReg 5 .d s

/-- `RES 5,E` (R283). -/
def execRes5E (s : State) : Result := resReg 5 .e s

/-- `RES 5,H` (R283). -/
def execRes5H (s : State) : Result := resReg 5 .h s

/-- `RES 5,L` (R283). -/
def execRes5L (s : State) : Result := resReg 5 .l s

/-- `RES 5,(HL)` (R284). -/
def execRes5Mhl (s : State) : Result := resMhl 5 s

/-- `RES 5,A` (R283). -/
def execRes5A (s : State) : Result := resReg 5 .a s

/-- `RES 6,B` (R283). -/
def execRes6B (s : State) : Result := resReg 6 .b s

/-- `RES 6,C` (R283). -/
def execRes6C (s : State) : Result := resReg 6 .c s

/-- `RES 6,D` (R283). -/
def execRes6D (s : State) : Result := resReg 6 .d s

/-- `RES 6,E` (R283). -/
def execRes6E (s : State) : Result := resReg 6 .e s

/-- `RES 6,H` (R283). -/
def execRes6H (s : State) : Result := resReg 6 .h s

/-- `RES 6,L` (R283). -/
def execRes6L (s : State) : Result := resReg 6 .l s

/-- `RES 6,(HL)` (R284). -/
def execRes6Mhl (s : State) : Result := resMhl 6 s

/-- `RES 6,A` (R283). -/
def execRes6A (s : State) : Result := resReg 6 .a s

/-- `RES 7,B` (R283). -/
def execRes7B (s : State) : Result := resReg 7 .b s

/-- `RES 7,C` (R283). -/
def execRes7C (s : State) : Result := resReg 7 .c s

/-- `RES 7,D` (R283). -/
def execRes7D (s : State) : Result := resReg 7 .d s

/-- `RES 7,E` (R283). -/
def execRes7E (s : State) : Result := resReg 7 .e s

/-- `RES 7,H` (R283). -/
def execRes7H (s : State) : Result := resReg 7 .h s

/-- `RES 7,L` (R283). -/
def execRes7L (s : State) : Result := resReg 7 .l s

/-- `RES 7,(HL)` (R284). -/
def execRes7Mhl (s : State) : Result := resMhl 7 s

/-- `RES 7,A` (R283). -/
def execRes7A (s : State) : Result := resReg 7 .a s

/-- `SET 0,B` (R285). -/
def execSet0B (s : State) : Result := setBitReg 0 .b s

/-- `SET 0,C` (R285). -/
def execSet0C (s : State) : Result := setBitReg 0 .c s

/-- `SET 0,D` (R285). -/
def execSet0D (s : State) : Result := setBitReg 0 .d s

/-- `SET 0,E` (R285). -/
def execSet0E (s : State) : Result := setBitReg 0 .e s

/-- `SET 0,H` (R285). -/
def execSet0H (s : State) : Result := setBitReg 0 .h s

/-- `SET 0,L` (R285). -/
def execSet0L (s : State) : Result := setBitReg 0 .l s

/-- `SET 0,(HL)` (R286). -/
def execSet0Mhl (s : State) : Result := setBitMhl 0 s

/-- `SET 0,A` (R285). -/
def execSet0A (s : State) : Result := setBitReg 0 .a s

/-- `SET 1,B` (R285). -/
def execSet1B (s : State) : Result := setBitReg 1 .b s

/-- `SET 1,C` (R285). -/
def execSet1C (s : State) : Result := setBitReg 1 .c s

/-- `SET 1,D` (R285). -/
def execSet1D (s : State) : Result := setBitReg 1 .d s

/-- `SET 1,E` (R285). -/
def execSet1E (s : State) : Result := setBitReg 1 .e s

/-- `SET 1,H` (R285). -/
def execSet1H (s : State) : Result := setBitReg 1 .h s

/-- `SET 1,L` (R285). -/
def execSet1L (s : State) : Result := setBitReg 1 .l s

/-- `SET 1,(HL)` (R286). -/
def execSet1Mhl (s : State) : Result := setBitMhl 1 s

/-- `SET 1,A` (R285). -/
def execSet1A (s : State) : Result := setBitReg 1 .a s

/-- `SET 2,B` (R285). -/
def execSet2B (s : State) : Result := setBitReg 2 .b s

/-- `SET 2,C` (R285). -/
def execSet2C (s : State) : Result := setBitReg 2 .c s

/-- `SET 2,D` (R285). -/
def execSet2D (s : State) : Result := setBitReg 2 .d s

/-- `SET 2,E` (R285). -/
def execSet2E (s : State) : Result := setBitReg 2 .e s

/-- `SET 2,H` (R285). -/
def execSet2H (s : State) : Result := setBitReg 2 .h s

/-- `SET 2,L` (R285). -/
def execSet2L (s : State) : Result := setBitReg 2 .l s

/-- `SET 2,(HL)` (R286). -/
def execSet2Mhl (s : State) : Result := setBitMhl 2 s

/-- `SET 2,A` (R285). -/
def execSet2A (s : State) : Result := setBitReg 2 .a s

/-- `SET 3,B` (R285). -/
def execSet3B (s : State) : Result := setBitReg 3 .b s

/-- `SET 3,C` (R285). -/
def execSet3C (s : State) : Result := setBitReg 3 .c s

/-- `SET 3,D` (R285). -/
def execSet3D (s : State) : Result := setBitReg 3 .d s

/-- `SET 3,E` (R285). -/
def execSet3E (s : State) : Result := setBitReg 3 .e s

/-- `SET 3,H` (R285). -/
def execSet3H (s : State) : Result := setBitReg 3 .h s

/-- `SET 3,L` (R285). -/
def execSet3L (s : State) : Result := setBitReg 3 .l s

/-- `SET 3,(HL)` (R286). -/
def execSet3Mhl (s : State) : Result := setBitMhl 3 s

/-- `SET 3,A` (R285). -/
def execSet3A (s : State) : Result := setBitReg 3 .a s

/-- `SET 4,B` (R285). -/
def execSet4B (s : State) : Result := setBitReg 4 .b s

/-- `SET 4,C` (R285). -/
def execSet4C (s : State) : Result := setBitReg 4 .c s

/-- `SET 4,D` (R285). -/
def execSet4D (s : State) : Result := setBitReg 4 .d s

/-- `SET 4,E` (R285). -/
def execSet4E (s : State) : Result := setBitReg 4 .e s

/-- `SET 4,H` (R285). -/
def execSet4H (s : State) : Result := setBitReg 4 .h s

/-- `SET 4,L` (R285). -/
def execSet4L (s : State) : Result := setBitReg 4 .l s

/-- `SET 4,(HL)` (R286). -/
def execSet4Mhl (s : State) : Result := setBitMhl 4 s

/-- `SET 4,A` (R285). -/
def execSet4A (s : State) : Result := setBitReg 4 .a s

/-- `SET 5,B` (R285). -/
def execSet5B (s : State) : Result := setBitReg 5 .b s

/-- `SET 5,C` (R285). -/
def execSet5C (s : State) : Result := setBitReg 5 .c s

/-- `SET 5,D` (R285). -/
def execSet5D (s : State) : Result := setBitReg 5 .d s

/-- `SET 5,E` (R285). -/
def execSet5E (s : State) : Result := setBitReg 5 .e s

/-- `SET 5,H` (R285). -/
def execSet5H (s : State) : Result := setBitReg 5 .h s

/-- `SET 5,L` (R285). -/
def execSet5L (s : State) : Result := setBitReg 5 .l s

/-- `SET 5,(HL)` (R286). -/
def execSet5Mhl (s : State) : Result := setBitMhl 5 s

/-- `SET 5,A` (R285). -/
def execSet5A (s : State) : Result := setBitReg 5 .a s

/-- `SET 6,B` (R285). -/
def execSet6B (s : State) : Result := setBitReg 6 .b s

/-- `SET 6,C` (R285). -/
def execSet6C (s : State) : Result := setBitReg 6 .c s

/-- `SET 6,D` (R285). -/
def execSet6D (s : State) : Result := setBitReg 6 .d s

/-- `SET 6,E` (R285). -/
def execSet6E (s : State) : Result := setBitReg 6 .e s

/-- `SET 6,H` (R285). -/
def execSet6H (s : State) : Result := setBitReg 6 .h s

/-- `SET 6,L` (R285). -/
def execSet6L (s : State) : Result := setBitReg 6 .l s

/-- `SET 6,(HL)` (R286). -/
def execSet6Mhl (s : State) : Result := setBitMhl 6 s

/-- `SET 6,A` (R285). -/
def execSet6A (s : State) : Result := setBitReg 6 .a s

/-- `SET 7,B` (R285). -/
def execSet7B (s : State) : Result := setBitReg 7 .b s

/-- `SET 7,C` (R285). -/
def execSet7C (s : State) : Result := setBitReg 7 .c s

/-- `SET 7,D` (R285). -/
def execSet7D (s : State) : Result := setBitReg 7 .d s

/-- `SET 7,E` (R285). -/
def execSet7E (s : State) : Result := setBitReg 7 .e s

/-- `SET 7,H` (R285). -/
def execSet7H (s : State) : Result := setBitReg 7 .h s

/-- `SET 7,L` (R285). -/
def execSet7L (s : State) : Result := setBitReg 7 .l s

/-- `SET 7,(HL)` (R286). -/
def execSet7Mhl (s : State) : Result := setBitMhl 7 s

/-- `SET 7,A` (R285). -/
def execSet7A (s : State) : Result := setBitReg 7 .a s

end Sys2Proof.Machine
end

