-- ==== Sys2Proof/Machine/CpuControl.lean ====
section
/-! DEFINITION. The meanings of CPU control (spec/46_cpu_control.md R309 to R316): the shared
operations of the family, then one definition per instruction. -/

namespace Sys2Proof.Machine

/-- `NOP` (R310). -/
def nop (s : State) : Result := .next (s.advance 1 4)

/-- `HALT` (R311): with `IME` = 0 and a request pending it does not halt, and makes the next byte be read twice when
the machine has that bug. -/
def halt (s : State) : Result :=
  let s := s.advance 1 4
  if s.ctl.ime = false ∧ pendingInterrupts s.board ≠ 0 then .next { s with ctl := { s.ctl with haltBug := s.board.params.haltBug } }
  else .next { s with ctl := { s.ctl with halted := true } }

/-- `STOP` (R312): the second byte is ignored. Its own 4 cycles reach the peripherals (R7; DEDUCED, log entry 11). -/
def stop (s : State) : Result :=
  let s := s.advance 2 4
  .next { s with board := writeDiv s.board, ctl := { s.ctl with stopped := true } }

/-- `DI` (R313). -/
def di (s : State) : Result :=
  let s := s.advance 1 4
  .next { s with ctl := { s.ctl with ime := false, imeSched := false } }

/-- `EI` (R314): `IME` itself changes only after the next instruction. -/
def ei (s : State) : Result :=
  let s := s.advance 1 4
  .next { s with ctl := { s.ctl with imeSched := true } }

/-- The instruction of the two bytes 0xCB, `opcode2`, by the fields of the second byte (R155, R315). -/
def runCb (opcode2 : Byte) (s : State) : Result :=
  let x := opcode2.extractLsb' 6 2
  let y := opcode2.extractLsb' 3 3
  match Reg8.ofCode (opcode2.extractLsb' 0 3) with
  | some r =>
    if x = 0 then shiftReg (ShiftOp.ofCode y) r s
    else if x = 1 then bitReg y r s
    else if x = 2 then resReg y r s
    else setBitReg y r s
  | none =>
    if x = 0 then shiftMhl (ShiftOp.ofCode y) s
    else if x = 1 then bitMhl y s
    else if x = 2 then resMhl y s
    else setBitMhl y s

/-! ## The instructions -/

/-- `NOP` (R310). -/
def execNop (s : State) : Result := nop s

/-- `STOP` (R312). -/
def execStop (_pad : Byte) (s : State) : Result := stop s

/-- `HALT` (R311). -/
def execHalt (s : State) : Result := halt s

/-- `The prefix 0xCB with its second byte` (R315). -/
def execPrefixCb (opcode2 : Byte) (s : State) : Result := runCb opcode2 s

/-- `Illegal opcode 0xD3` (R316). -/
def execIllegalD3 (s : State) : Result := raiseIllegalOpcode 0xD3 s

/-- `Illegal opcode 0xDB` (R316). -/
def execIllegalDB (s : State) : Result := raiseIllegalOpcode 0xDB s

/-- `Illegal opcode 0xDD` (R316). -/
def execIllegalDD (s : State) : Result := raiseIllegalOpcode 0xDD s

/-- `Illegal opcode 0xE3` (R316). -/
def execIllegalE3 (s : State) : Result := raiseIllegalOpcode 0xE3 s

/-- `Illegal opcode 0xE4` (R316). -/
def execIllegalE4 (s : State) : Result := raiseIllegalOpcode 0xE4 s

/-- `Illegal opcode 0xEB` (R316). -/
def execIllegalEB (s : State) : Result := raiseIllegalOpcode 0xEB s

/-- `Illegal opcode 0xEC` (R316). -/
def execIllegalEC (s : State) : Result := raiseIllegalOpcode 0xEC s

/-- `Illegal opcode 0xED` (R316). -/
def execIllegalED (s : State) : Result := raiseIllegalOpcode 0xED s

/-- `DI` (R313). -/
def execDi (s : State) : Result := di s

/-- `Illegal opcode 0xF4` (R316). -/
def execIllegalF4 (s : State) : Result := raiseIllegalOpcode 0xF4 s

/-- `EI` (R314). -/
def execEi (s : State) : Result := ei s

/-- `Illegal opcode 0xFC` (R316). -/
def execIllegalFC (s : State) : Result := raiseIllegalOpcode 0xFC s

/-- `Illegal opcode 0xFD` (R316). -/
def execIllegalFD (s : State) : Result := raiseIllegalOpcode 0xFD s

end Sys2Proof.Machine
end

