-- ==== Sys2Proof/Machine/Load16.lean ====
section
/-! DEFINITION. The meanings of the 16-bit loads and the stack instructions (spec/41_load16.md R199 to R208): the shared
operations of the family, then one definition per instruction. -/

namespace Sys2Proof.Machine

/-- `LD r16,n16` (R200). -/
def ldR16N16 (p : Reg16) (n16 : Word) (s : State) : Result := .next ((s.advance 3 12).setReg16 p n16)

/-- `LD (a16),SP`: the low byte first (R201). -/
def ldA16Sp (a16 : Word) (s : State) : Result :=
  .next (busWrite (busWrite (s.advance 3 20) a16 (loByte s.regs.sp)) (a16 + 1) (hiByte s.regs.sp))

/-- `LD SP,HL` (R202). -/
def ldSpHl (s : State) : Result := .next ((s.advance 1 8).setSp s.hl)

/-- `LD HL,SP+e8` (R203). -/
def ldHlSpE8 (e8 : Byte) (s : State) : Result :=
  .next (((s.advance 2 12).setHl (s.regs.sp + sext16 e8)).setFlags false false (addSpH s.regs.sp e8) (addSpC s.regs.sp e8))

/-- `PUSH r16s` (R207). -/
def pushPair (p : Reg16s) (s : State) : Result := .next (push16 (s.reg16s p) (s.advance 1 16))

/-- `POP r16s` (R208). -/
def popPair (p : Reg16s) (s : State) : Result :=
  let s := s.advance 1 12
  .next ((afterPop s).setReg16s p (popValue s))

/-! ## The instructions -/

/-- `LD BC,n16` (R200). -/
def execLdBcN16 (n16 : Word) (s : State) : Result := ldR16N16 .bc n16 s

/-- `LD (a16),SP` (R201). -/
def execLdMa16Sp (a16 : Word) (s : State) : Result := ldA16Sp a16 s

/-- `LD DE,n16` (R200). -/
def execLdDeN16 (n16 : Word) (s : State) : Result := ldR16N16 .de n16 s

/-- `LD HL,n16` (R200). -/
def execLdHlN16 (n16 : Word) (s : State) : Result := ldR16N16 .hl n16 s

/-- `LD SP,n16` (R200). -/
def execLdSpN16 (n16 : Word) (s : State) : Result := ldR16N16 .sp n16 s

/-- `POP BC` (R208). -/
def execPopBc (s : State) : Result := popPair .bc s

/-- `PUSH BC` (R207). -/
def execPushBc (s : State) : Result := pushPair .bc s

/-- `POP DE` (R208). -/
def execPopDe (s : State) : Result := popPair .de s

/-- `PUSH DE` (R207). -/
def execPushDe (s : State) : Result := pushPair .de s

/-- `POP HL` (R208). -/
def execPopHl (s : State) : Result := popPair .hl s

/-- `PUSH HL` (R207). -/
def execPushHl (s : State) : Result := pushPair .hl s

/-- `POP AF` (R208). -/
def execPopAf (s : State) : Result := popPair .af s

/-- `PUSH AF` (R207). -/
def execPushAf (s : State) : Result := pushPair .af s

/-- `LD HL,SP+e8` (R203). -/
def execLdHlSpE8 (e8 : Byte) (s : State) : Result := ldHlSpE8 e8 s

/-- `LD SP,HL` (R202). -/
def execLdSpHl (s : State) : Result := ldSpHl s

end Sys2Proof.Machine
end

