-- ==== Sys2Proof/Machine/Load8.lean ====
section
/-! DEFINITION. The meanings of the 8-bit loads (spec/40_load8.md R170 to R190). No flag changes and nothing is raised (R170): the shared
operations of the family, then one definition per instruction. -/

namespace Sys2Proof.Machine

/-- `LD r8,r8'` (R171). -/
def ldRegReg (dst src : Reg8) (s : State) : Result :=
  let s := s.advance 1 4
  .next (s.setReg dst (s.reg src))

/-- `LD r8,n8` (R172). -/
def ldRegN8 (dst : Reg8) (n8 : Byte) (s : State) : Result := .next ((s.advance 2 8).setReg dst n8)

/-- Load a register from an address the instruction computed before the write (R173, R176, R177, R180, R188, R190). -/
def loadReg (dst : Reg8) (addr : Word) (s : State) : State := (afterRead s addr).setReg dst (busRead s addr)

/-- `LD r8,(HL)` (R173). -/
def ldRegMhl (dst : Reg8) (s : State) : Result := .next (loadReg dst s.hl (s.advance 1 8))

/-- `LD (HL),r8` (R174). -/
def ldMhlReg (src : Reg8) (s : State) : Result := .next (busWrite (s.advance 1 8) s.hl (s.reg src))

/-- `LD (HL),n8` (R175). -/
def ldMhlN8 (n8 : Byte) (s : State) : Result := .next (busWrite (s.advance 2 12) s.hl n8)

/-- `LD A,(BC)` (R176). -/
def ldAFromBc (s : State) : Result := .next (loadReg .a s.bc (s.advance 1 8))

/-- `LD A,(DE)` (R177). -/
def ldAFromDe (s : State) : Result := .next (loadReg .a s.de (s.advance 1 8))

/-- `LD (BC),A` (R178). -/
def ldBcFromA (s : State) : Result := .next (busWrite (s.advance 1 8) s.bc s.regs.a)

/-- `LD (DE),A` (R179). -/
def ldDeFromA (s : State) : Result := .next (busWrite (s.advance 1 8) s.de s.regs.a)

/-- `LD A,(a16)` (R180). -/
def ldAFromA16 (a16 : Word) (s : State) : Result := .next (loadReg .a a16 (s.advance 3 16))

/-- `LD (a16),A` (R181). -/
def ldA16FromA (a16 : Word) (s : State) : Result := .next (busWrite (s.advance 3 16) a16 s.regs.a)

/-- `LD (HL+),A` and `LD (HL-),A`: store at `HL`, then move `HL` by `step` (R182, R183). -/
def ldHlStepFromA (step : Word) (s : State) : Result :=
  .next ((busWrite (s.advance 1 8) s.hl s.regs.a).setHl (s.hl + step))

/-- `LD A,(HL+)` and `LD A,(HL-)`: load from `HL`, then move `HL` by `step` (R184, R185). -/
def ldAFromHlStep (step : Word) (s : State) : Result := .next ((loadReg .a s.hl (s.advance 1 8)).setHl (s.hl + step))

/-- `LDH (a8),A` (R187). -/
def ldhFromA (a8 : Byte) (s : State) : Result := .next (busWrite (s.advance 2 12) (highPage a8) s.regs.a)

/-- `LDH A,(a8)` (R188). -/
def ldhToA (a8 : Byte) (s : State) : Result := .next (loadReg .a (highPage a8) (s.advance 2 12))

/-- `LD (C),A` (R189). -/
def ldHighCFromA (s : State) : Result := .next (busWrite (s.advance 1 8) (highPage s.regs.c) s.regs.a)

/-- `LD A,(C)` (R190). -/
def ldAFromHighC (s : State) : Result := .next (loadReg .a (highPage s.regs.c) (s.advance 1 8))

/-! ## The instructions -/

/-- `LD (BC),A` (R178). -/
def execLdMbcA (s : State) : Result := ldBcFromA s

/-- `LD B,n8` (R172). -/
def execLdBN8 (n8 : Byte) (s : State) : Result := ldRegN8 .b n8 s

/-- `LD A,(BC)` (R176). -/
def execLdAMbc (s : State) : Result := ldAFromBc s

/-- `LD C,n8` (R172). -/
def execLdCN8 (n8 : Byte) (s : State) : Result := ldRegN8 .c n8 s

/-- `LD (DE),A` (R179). -/
def execLdMdeA (s : State) : Result := ldDeFromA s

/-- `LD D,n8` (R172). -/
def execLdDN8 (n8 : Byte) (s : State) : Result := ldRegN8 .d n8 s

/-- `LD A,(DE)` (R177). -/
def execLdAMde (s : State) : Result := ldAFromDe s

/-- `LD E,n8` (R172). -/
def execLdEN8 (n8 : Byte) (s : State) : Result := ldRegN8 .e n8 s

/-- `LD (HL+),A` (R182). -/
def execLdMhliA (s : State) : Result := ldHlStepFromA 1 s

/-- `LD H,n8` (R172). -/
def execLdHN8 (n8 : Byte) (s : State) : Result := ldRegN8 .h n8 s

/-- `LD A,(HL+)` (R184). -/
def execLdAMhli (s : State) : Result := ldAFromHlStep 1 s

/-- `LD L,n8` (R172). -/
def execLdLN8 (n8 : Byte) (s : State) : Result := ldRegN8 .l n8 s

/-- `LD (HL-),A` (R183). -/
def execLdMhldA (s : State) : Result := ldHlStepFromA (-1) s

/-- `LD (HL),n8` (R175). -/
def execLdMhlN8 (n8 : Byte) (s : State) : Result := ldMhlN8 n8 s

/-- `LD A,(HL-)` (R185). -/
def execLdAMhld (s : State) : Result := ldAFromHlStep (-1) s

/-- `LD A,n8` (R172). -/
def execLdAN8 (n8 : Byte) (s : State) : Result := ldRegN8 .a n8 s

/-- `LD B,B` (R171). -/
def execLdBB (s : State) : Result := ldRegReg .b .b s

/-- `LD B,C` (R171). -/
def execLdBC (s : State) : Result := ldRegReg .b .c s

/-- `LD B,D` (R171). -/
def execLdBD (s : State) : Result := ldRegReg .b .d s

/-- `LD B,E` (R171). -/
def execLdBE (s : State) : Result := ldRegReg .b .e s

/-- `LD B,H` (R171). -/
def execLdBH (s : State) : Result := ldRegReg .b .h s

/-- `LD B,L` (R171). -/
def execLdBL (s : State) : Result := ldRegReg .b .l s

/-- `LD B,(HL)` (R173). -/
def execLdBMhl (s : State) : Result := ldRegMhl .b s

/-- `LD B,A` (R171). -/
def execLdBA (s : State) : Result := ldRegReg .b .a s

/-- `LD C,B` (R171). -/
def execLdCB (s : State) : Result := ldRegReg .c .b s

/-- `LD C,C` (R171). -/
def execLdCC (s : State) : Result := ldRegReg .c .c s

/-- `LD C,D` (R171). -/
def execLdCD (s : State) : Result := ldRegReg .c .d s

/-- `LD C,E` (R171). -/
def execLdCE (s : State) : Result := ldRegReg .c .e s

/-- `LD C,H` (R171). -/
def execLdCH (s : State) : Result := ldRegReg .c .h s

/-- `LD C,L` (R171). -/
def execLdCL (s : State) : Result := ldRegReg .c .l s

/-- `LD C,(HL)` (R173). -/
def execLdCMhl (s : State) : Result := ldRegMhl .c s

/-- `LD C,A` (R171). -/
def execLdCA (s : State) : Result := ldRegReg .c .a s

/-- `LD D,B` (R171). -/
def execLdDB (s : State) : Result := ldRegReg .d .b s

/-- `LD D,C` (R171). -/
def execLdDC (s : State) : Result := ldRegReg .d .c s

/-- `LD D,D` (R171). -/
def execLdDD (s : State) : Result := ldRegReg .d .d s

/-- `LD D,E` (R171). -/
def execLdDE (s : State) : Result := ldRegReg .d .e s

/-- `LD D,H` (R171). -/
def execLdDH (s : State) : Result := ldRegReg .d .h s

/-- `LD D,L` (R171). -/
def execLdDL (s : State) : Result := ldRegReg .d .l s

/-- `LD D,(HL)` (R173). -/
def execLdDMhl (s : State) : Result := ldRegMhl .d s

/-- `LD D,A` (R171). -/
def execLdDA (s : State) : Result := ldRegReg .d .a s

/-- `LD E,B` (R171). -/
def execLdEB (s : State) : Result := ldRegReg .e .b s

/-- `LD E,C` (R171). -/
def execLdEC (s : State) : Result := ldRegReg .e .c s

/-- `LD E,D` (R171). -/
def execLdED (s : State) : Result := ldRegReg .e .d s

/-- `LD E,E` (R171). -/
def execLdEE (s : State) : Result := ldRegReg .e .e s

/-- `LD E,H` (R171). -/
def execLdEH (s : State) : Result := ldRegReg .e .h s

/-- `LD E,L` (R171). -/
def execLdEL (s : State) : Result := ldRegReg .e .l s

/-- `LD E,(HL)` (R173). -/
def execLdEMhl (s : State) : Result := ldRegMhl .e s

/-- `LD E,A` (R171). -/
def execLdEA (s : State) : Result := ldRegReg .e .a s

/-- `LD H,B` (R171). -/
def execLdHB (s : State) : Result := ldRegReg .h .b s

/-- `LD H,C` (R171). -/
def execLdHC (s : State) : Result := ldRegReg .h .c s

/-- `LD H,D` (R171). -/
def execLdHD (s : State) : Result := ldRegReg .h .d s

/-- `LD H,E` (R171). -/
def execLdHE (s : State) : Result := ldRegReg .h .e s

/-- `LD H,H` (R171). -/
def execLdHH (s : State) : Result := ldRegReg .h .h s

/-- `LD H,L` (R171). -/
def execLdHL (s : State) : Result := ldRegReg .h .l s

/-- `LD H,(HL)` (R173). -/
def execLdHMhl (s : State) : Result := ldRegMhl .h s

/-- `LD H,A` (R171). -/
def execLdHA (s : State) : Result := ldRegReg .h .a s

/-- `LD L,B` (R171). -/
def execLdLB (s : State) : Result := ldRegReg .l .b s

/-- `LD L,C` (R171). -/
def execLdLC (s : State) : Result := ldRegReg .l .c s

/-- `LD L,D` (R171). -/
def execLdLD (s : State) : Result := ldRegReg .l .d s

/-- `LD L,E` (R171). -/
def execLdLE (s : State) : Result := ldRegReg .l .e s

/-- `LD L,H` (R171). -/
def execLdLH (s : State) : Result := ldRegReg .l .h s

/-- `LD L,L` (R171). -/
def execLdLL (s : State) : Result := ldRegReg .l .l s

/-- `LD L,(HL)` (R173). -/
def execLdLMhl (s : State) : Result := ldRegMhl .l s

/-- `LD L,A` (R171). -/
def execLdLA (s : State) : Result := ldRegReg .l .a s

/-- `LD (HL),B` (R174). -/
def execLdMhlB (s : State) : Result := ldMhlReg .b s

/-- `LD (HL),C` (R174). -/
def execLdMhlC (s : State) : Result := ldMhlReg .c s

/-- `LD (HL),D` (R174). -/
def execLdMhlD (s : State) : Result := ldMhlReg .d s

/-- `LD (HL),E` (R174). -/
def execLdMhlE (s : State) : Result := ldMhlReg .e s

/-- `LD (HL),H` (R174). -/
def execLdMhlH (s : State) : Result := ldMhlReg .h s

/-- `LD (HL),L` (R174). -/
def execLdMhlL (s : State) : Result := ldMhlReg .l s

/-- `LD (HL),A` (R174). -/
def execLdMhlA (s : State) : Result := ldMhlReg .a s

/-- `LD A,B` (R171). -/
def execLdAB (s : State) : Result := ldRegReg .a .b s

/-- `LD A,C` (R171). -/
def execLdAC (s : State) : Result := ldRegReg .a .c s

/-- `LD A,D` (R171). -/
def execLdAD (s : State) : Result := ldRegReg .a .d s

/-- `LD A,E` (R171). -/
def execLdAE (s : State) : Result := ldRegReg .a .e s

/-- `LD A,H` (R171). -/
def execLdAH (s : State) : Result := ldRegReg .a .h s

/-- `LD A,L` (R171). -/
def execLdAL (s : State) : Result := ldRegReg .a .l s

/-- `LD A,(HL)` (R173). -/
def execLdAMhl (s : State) : Result := ldRegMhl .a s

/-- `LD A,A` (R171). -/
def execLdAA (s : State) : Result := ldRegReg .a .a s

/-- `LDH (a8),A` (R187). -/
def execLdhMa8A (a8 : Byte) (s : State) : Result := ldhFromA a8 s

/-- `LD (C),A` (R189). -/
def execLdMcA (s : State) : Result := ldHighCFromA s

/-- `LD (a16),A` (R181). -/
def execLdMa16A (a16 : Word) (s : State) : Result := ldA16FromA a16 s

/-- `LDH A,(a8)` (R188). -/
def execLdhAMa8 (a8 : Byte) (s : State) : Result := ldhToA a8 s

/-- `LD A,(C)` (R190). -/
def execLdAMc (s : State) : Result := ldAFromHighC s

/-- `LD A,(a16)` (R180). -/
def execLdAMa16 (a16 : Word) (s : State) : Result := ldAFromA16 a16 s

end Sys2Proof.Machine
end

