-- ==== Sys2Proof/Machine/Cpu.lean ====
section
/-! DEFINITION. The CPU's step and the system step (spec/30_encoding.md R142, spec/60_exceptions.md R330 to R332,
spec/00_scope.md R7). -/

namespace Sys2Proof.Machine

/-! ## Fetch (R142, R311) -/

/-- The address of the first operand byte: after the opcode, or the opcode's own address when the HALT bug makes that
byte be read twice (R142, R311). -/
def operandAddress (s : State) : Word := if s.ctl.haltBug then s.regs.pc else s.regs.pc + 1

/-- Fetch and decode at PC: the opcode, then as many operand bytes as its length asks for, in that order, through the
Bus (R142). The second part is the state after these reads. -/
def fetch (s : State) : Instr × State :=
  let op := busRead s s.regs.pc
  let s1 := afterRead s s.regs.pc
  let a1 := operandAddress s
  if lengthOf op = 1 then (decodeBytes op 0 0, s1)
  else
    let byte1 := busRead s1 a1
    let s2 := afterRead s1 a1
    if lengthOf op = 2 then (decodeBytes op byte1 0, s2)
    else (decodeBytes op byte1 (busRead s2 (a1 + 1)), afterRead s2 (a1 + 1))

/-! ## The CPU step (R330) -/

/-- What `CpuStep` does after the instruction when an `EI` preceded it: `ime_sched <- 0`, and `IME <- 1` unless the
instruction was `DI` (R314, R330). -/
def enableAfter (eiWas : Bool) (i : Instr) (s : State) : State :=
  if eiWas then
    { s with ctl := { s.ctl with imeSched := false, ime := if i = .di then s.ctl.ime else true } }
  else s

/-- Fetch, decode and execute one instruction (R330). -/
def runInstruction (s : State) : Result :=
  let f := fetch s
  match exec f.1 f.2 with
  | .next t => .next (enableAfter s.ctl.imeSched f.1 t)
  | .fault r => .fault r
  | .refused r => .refused r

/-- An idle period of 4 cycles while halted (R331). -/
def idle (s : State) : State := { s with clock := s.clock + 4 }

/-- Leave `halted` (R331). -/
def wake (s : State) : State := { s with ctl := { s.ctl with halted := false } }

/-- `CpuStep()` of a machine that is neither faulted nor stopped (R330); the cycles it returns are what it adds to
`clock`. -/
def cpuStep (s : State) : Result :=
  let pending := pendingInterrupts s.board
  if s.ctl.halted ∧ pending = 0 then .next (idle s)
  else if s.ctl.ime ∧ pending ≠ 0 then .next (interruptEntry pending (wake s))
  else runInstruction (wake s)

/-! ## The system step (R7) -/

/-- The Timer, the PPU and the APU catch up by the same number of cycles, in this order (R7, D44). -/
def stepPeripherals (cycles : Nat) (s : State) : State :=
  { s with board := apuStep cycles (ppuStep cycles (timerStep cycles s.board)) }

/-- One system step (R7): an `IllegalOpcode` abandons it before the peripherals are stepped (R326). The cycles are what
the CPU step added to `clock` (R38; log entry 17). -/
def systemStep (s : State) : Result :=
  match cpuStep s with
  | .next t => .next (stepPeripherals (t.clock - s.clock) t)
  | .fault r => .fault r
  | .refused r => .refused r

/-! ## The host's turn (R465) -/

/-- `SetButtons(b)` (R346): a selected line that goes from 1 to 0 requests the joypad interrupt and ends a stop. -/
def setButtons (b : Byte) (s : State) : State :=
  { s with board := pressButtons b s.board,
           ctl := { s.ctl with stopped := s.ctl.stopped && !lineFalls b s.board } }

/-- `SetButtons` moves one after another. -/
def setButtonsAll : List Byte → State → State
  | [], s => s
  | b :: bs, s => setButtonsAll bs (setButtons b s)

/-- The host's moves before a system step: the head of the button schedule (R346, R465; log entry 9). -/
def hostTurn (s : State) : State :=
  match s.hostMoves with
  | [] => s
  | bs :: ms => setButtonsAll bs { s with hostMoves := ms }

/-- One step of the machine: a faulted machine answers its fault again (R35, R326). The host moves. A machine that is
still stopped takes no system step (R33, R312): it waits while the host's schedule lasts, and then is stuck. -/
def machineStep (s : State) : Result :=
  match s.ctl.faulted with
  | some r => .fault (.illegalOpcode r.op r.pc0 s)
  | none =>
    let t := hostTurn s
    if t.ctl.stopped then
      match s.hostMoves with
      | [] => .fault (.stuckInStop s)
      | _ :: _ => .next t
    else systemStep t

end Sys2Proof.Machine
end

