-- ==== Sys2Proof/Machine/Program.lean ====
section
/-! DEFINITION. Placing bytes where the next fetch reads them (the host's interface, log entry 6): what a loader does. -/

namespace Sys2Proof.Machine

/-- Can the Bus be made to read a chosen byte at `a`? Not in the crash region, nor in external RAM that is absent or
disabled. -/
def canHold (s : Board) (a : Word) : Bool :=
  match s.region a with
  | .crash => false
  | .extRam => s.cart.ramUsable
  | .boot | .rom | .vram | .wram | .echo | .oam | .io | .high => true

/-- Put a byte into whatever backs address `a` for a read. -/
def poke (s : Board) (a : Word) (v : Byte) : Board :=
  match s.region a with
  | .boot => { s with bootRom := s.bootRom.put a.toNat v }
  | .rom => { s with cart := { s.cart with rom := s.cart.rom.put (s.cart.romOffset a) v } }
  | .extRam => extRamWrite s a v
  | .echo => rawWrite s (a - 0x2000) v
  | .crash => s
  | .vram | .wram | .oam | .io | .high => rawWrite s a v

/-- Put bytes at consecutive addresses. -/
def pokeAll (s : Board) (a : Word) : List Byte → Board
  | [] => s
  | v :: vs => pokeAll (poke s a v) (a + 1) vs

/-- PC where three bytes can be placed: where it is, or work RAM. -/
def placeable (s : State) : State :=
  let pc := s.regs.pc
  if canHold s.board pc && canHold s.board (pc + 1) && canHold s.board (pc + 2) then s
  else { s with regs := { s.regs with pc := 0xC000 } }

/-- Nothing stands between the machine and its next fetch: not halted, stopped or faulted, no HALT bug, no host move. -/
def ready (s : State) : State :=
  { s with hostMoves := [],
           ctl := { s.ctl with halted := false, stopped := false, haltBug := false, faulted := none } }

/-- An interrupt that is pending would be taken first: mask it. -/
def maskPending (s : State) : State :=
  if pendingInterrupts s.board = 0 then s else { s with ctl := { s.ctl with ime := false } }

/-- Place `bytes` where the next step fetches its instruction, and let that step fetch it. -/
def placeBytes (s : State) (bytes : List Byte) : State :=
  let s := placeable (ready s)
  maskPending { s with board := pokeAll s.board s.regs.pc bytes }

end Sys2Proof.Machine
end

