-- ==== Sys2Proof/Machine/HostMoves.lean ====
section
/-! DEFINITION. The host's other moves (spec/70_reset_and_hazards.md R450 to R452, R465): `Reset(ENTRY)` with its two entry
states (spec/10_state.md R43, R44), `LoadCartridge`, placing a boot image, and `RunFrame`. They are no part of a step: a
run is built from them by whoever drives the machine. -/

namespace Sys2Proof.Machine

/-- The board after reset to `ENTRY = PowerOn` (R44, R451): with nothing listed, memory reads as that reset leaves it.
Nothing survives but the images, the cartridge's RAM (what the host keeps of it) and the parameters; the model's own
counters and the sinks' records go on (log entry 19). -/
def powerOnBoard (s : Board) : Board :=
  { mem := [], bootVisible := true, bootRom := s.bootRom,
    cart := { s.cart with ramEnable := false, bankLo := 1, bankHi := 0, bankMode := false },
    timer := { divAcc := 0, timaAcc := 0 },
    ppu := { mode := .hblank, acc := 0, spriteList := [], winLine := 0, offAcc := 0, framebuffer := blankFrame,
             frames := s.ppu.frames },
    apu := { Apu.off with samples := s.apu.samples }, buttons := 0, params := { s.params with entry := .powerOn }, draws := s.draws }

/-- Reset to `ENTRY = PowerOn` (R44, R451). The registers come from `regs`, whose every field but PC is unspecified
(`DRAW`); `F[3:0]` is 0 (R26). -/
def resetPowerOn (regs : Regs) (s : State) : State :=
  { regs := { regs with f := regs.f &&& 0xF0, pc := 0x0000 }, ctl := .reset, clock := 0, board := powerOnBoard s.board,
    hostMoves := s.hostMoves }

/-- The board after reset to `ENTRY = PostBoot` (R44, R451): as `Board.reset`, with the same survivors. -/
def postBootBoard (s : Board) : Board :=
  { Board.reset with
    bootRom := s.bootRom
    cart := { s.cart with ramEnable := false, bankLo := 1, bankHi := 0, bankMode := false }
    ppu := { Board.reset.ppu with frames := s.ppu.frames }
    apu := { Board.reset.apu with samples := s.apu.samples }
    params := { s.params with entry := .postBoot }
    draws := s.draws }

/-- Reset to `ENTRY = PostBoot` (R44, R451). -/
def resetPostBoot (s : State) : State :=
  { State.reset with board := postBootBoard s.board, hostMoves := s.hostMoves }

/-- `Reset(ENTRY)` (R450). -/
def resetMove (entry : Entry) (regs : Regs) (s : State) : State :=
  match entry with
  | .powerOn => resetPowerOn regs s
  | .postBoot => resetPostBoot s

/-- `LoadCartridge(image)` (R465): the new cartridge, or the reason the image is refused (R95). -/
def loadCartridge (image : List Byte) (ram : Memory) (s : State) : Except LoadError State :=
  match loadImage image ram with
  | .ok c => .ok { s with board := { s.board with cart := c } }
  | .error e => .error e

/-- The host supplies `BOOT_ROM` (R10, D5). -/
def loadBootRom (image : List Byte) (s : State) : State :=
  { s with board := { s.board with bootRom := imageCells 0 (image.take 256) } }

/-! ## `RunFrame()` (R465) -/

/-- Why `RunFrame` hands the machine back. -/
inductive FrameEnd where
  /-- A frame is complete: `FrameDone()` was called (R392). -/
  | frameDone
  /-- The machine is stopped (R312). -/
  | stopped
  /-- The host stops it, between two steps. -/
  | hostStop
  deriving DecidableEq, Repr

/-- `RunFrame()` (R465): steps until the next `FrameDone()`, a fault, `stopped` = 1 or a host stop. The host stops it
after `limit` steps, if nothing else does. A stopped machine is handed back at once: the host ends a stop by a step that
takes its scheduled move. -/
def runFrame : Nat → State → Host.Outcome (FrameEnd × State) Fault Refusal
  | 0, s => .next (if s.ctl.stopped then .stopped else .hostStop, s)
  | limit + 1, s =>
    if s.ctl.stopped then .next (.stopped, s)
    else
      match step s with
      | .next t => if t.board.ppu.frames ≠ s.board.ppu.frames then .next (.frameDone, t) else runFrame limit t
      | .fault r => .fault r
      | .refused r => .refused r

end Sys2Proof.Machine
end

