-- ==== Sys2Proof/Safety.lean ====
section
/-! DEFINITION. What counts as a safe run, and the invariants the claims are stated in: the promises spec/10_state.md
and spec/20_memory.md make about every state. -/

namespace Sys2Proof.Machine

/-- An outcome that goes on. -/
def Goes (r : Result) : Prop := ∃ t, r = .next t

/-- `n` steps from `s` all go on. -/
def SafeFor (n : Nat) (s : State) : Prop := ∃ t, Sys2Proof.core.run n s = .next t

/-! ## How a claim says what an instruction did -/

/-- `i` completes from `s`, in a state of which `post` holds. -/
def Runs (i : Instr) (s : State) (post : State → Prop) : Prop := ∃ t, exec i s = .next t ∧ post t

/-- The CPU step from `s` completes, in a state of which `post` holds. -/
def CpuStepRuns (s : State) (post : State → Prop) : Prop := ∃ t, cpuStep s = .next t ∧ post t

/-- `pcn` (R29): PC plus the length, one less while the HALT bug makes the first byte be read twice (R311). -/
def pcn (s : State) (length : Nat) : Word :=
  s.regs.pc + BitVec.ofNat 16 (if s.ctl.haltBug then length - 1 else length)

/-- The instruction ended with PC at `pc`, `cycles` cycles later, and no control bit changed but the HALT bug, which
its fetch consumed (R13, R38, R311). -/
def EndsAt (s t : State) (pc : Word) (cycles : Nat) : Prop :=
  t.regs.pc = pc ∧ t.clock = s.clock + cycles ∧ t.ctl = { s.ctl with haltBug := false }

/-- Every 8-bit register but those listed is as before (`F` apart). -/
def RegsKept (s t : State) (changed : List Reg8) : Prop := ∀ r, r ∉ changed → t.reg r = s.reg r

/-- The four flags of `t`, and the low nibble of its `F` is 0 (R23). -/
def FlagsAre (t : State) (z n h c : Bool) : Prop :=
  t.flagZ = z ∧ t.flagN = n ∧ t.flagH = h ∧ t.flagC = c ∧ t.regs.f &&& 0x0F = 0

/-- How many of these reads are answered by a draw (R69). -/
def drawsOf (s : State) (reads : List Word) : Nat := (reads.filter (fun a => s.region a = .crash)).length

/-- Nothing outside the CPU changed, by an instruction that reads `reads` and stores nothing: no byte of any store, no
bank register, no peripheral, nothing of the host; reads of the crash region took their draws. Every byte reads as
before (the crash region has none, R69). -/
def OutsideKept (s t : State) (reads : List Word) : Prop :=
  t.board = { s.board with draws := s.board.draws + drawsOf s reads } ∧ t.hostMoves = s.hostMoves ∧
  ∀ a, s.region a ≠ .crash → busRead t a = busRead s a

/-- `b` may read differently after a store to `a`, without being stored to itself: the bank windows (R98 to R102), the
echo of work RAM (R68), what an I/O register's rule writes (R115 to R118, R406 to R409). -/
def besideStore (s : State) (a b : Word) : Prop :=
  match s.region a with
  | .boot | .vram | .extRam | .oam | .crash | .high => False
  | .rom => 0x4000 ≤ b ∧ b ≤ 0x7FFF ∨ 0xA000 ≤ b ∧ b ≤ 0xBFFF
  | .wram => a ≤ 0xDDFF ∧ b = a + 0x2000
  | .echo => b = a - 0x2000
  | .io =>
    a = Io.lcdc ∧ (b = Io.ly ∨ b = Io.stat ∨ b = Io.if_) ∨
    a = Io.lyc ∧ (b = Io.stat ∨ b = Io.if_) ∨
    a = Io.dma ∧ 0xFE00 ≤ b ∧ b ≤ 0xFE9F ∨
    a = Io.nr52 ∧ b ∈ soundRegisters ∨
    a ∈ soundRegisters ∧ b = Io.nr52 ∨
    a = Io.boot ∧ b ≤ 0x00FF

/-- `a` is backed by `mem` and a store to it is nothing but the byte (R66, R68, R69, R72). -/
def State.plain (s : State) (a : Word) : Prop :=
  s.region a = .vram ∨ s.region a = .wram ∨ s.region a = .echo ∨ s.region a = .oam ∨ s.region a = .high

/-- Outside the CPU, `t` is `s` after the checked write of `v` to `a` (R80) and nothing else; every byte but `a`'s and
what stands beside the store reads as before; where `a` is plain memory it reads as `v`. -/
def Stored (s t : State) (a : Word) (v : Byte) : Prop :=
  t.board = memWrite s.board a v ∧ t.hostMoves = s.hostMoves ∧
  (∀ b, b ≠ a → ¬ besideStore s a b → s.region b ≠ .crash → busRead t b = busRead s b) ∧
  (s.plain a → busRead t a = v)

/-- Outside the CPU, `t` is `s` after the checked writes of `v` to `a` and then of `w` to `b`, and nothing else; every
byte but those two and what stands beside the stores reads as before; where both are plain memory, not the same, they
read as `v` and `w`. -/
def StoredTwice (s t : State) (a : Word) (v : Byte) (b : Word) (w : Byte) : Prop :=
  t.board = memWrite (memWrite s.board a v) b w ∧ t.hostMoves = s.hostMoves ∧
  (∀ c, c ≠ a → c ≠ b → ¬ besideStore s a c → ¬ besideStore (busWrite s a v) b c → s.region c ≠ .crash →
    busRead t c = busRead s c) ∧
  (s.plain a → s.plain b → a ≠ b → a ≠ b + 0x2000 → b ≠ a + 0x2000 → busRead t a = v ∧ busRead t b = w)

/-! ## Shapes several statements share -/

/-- `i` loads the byte at `addr` into `dst` and changes nothing else. -/
def LoadsByte (i : Instr) (s : State) (dst : Reg8) (addr : Word) (length cycles : Nat) : Prop :=
  Runs i s fun t =>
    t.reg dst = busRead s addr ∧ RegsKept s t [dst] ∧ t.regs.f = s.regs.f ∧ t.regs.sp = s.regs.sp ∧
    EndsAt s t (pcn s length) cycles ∧ OutsideKept s t [addr]

/-- `i` stores `v` at `addr` and changes nothing else. -/
def StoresByte (i : Instr) (s : State) (addr : Word) (v : Byte) (length cycles : Nat) : Prop :=
  Runs i s fun t =>
    RegsKept s t [] ∧ t.regs.f = s.regs.f ∧ t.regs.sp = s.regs.sp ∧ EndsAt s t (pcn s length) cycles ∧
    Stored s t addr v

/-- How an ALU instruction uses its operand (R215): the operation, the operand, the addresses read, the bytes, the
cost. -/
structure AluUse where
  op : AluOp
  x : Byte
  reads : List Word
  bytes : List Byte
  cycles : Nat
  deriving DecidableEq, Repr

/-- The three operand forms of an ALU instruction (R215). -/
def aluUse (s : State) : Form → Option AluUse
  | .aluReg op r => some ⟨op, s.reg r, [], [0b10#2 ++ op.code ++ r.code], 4⟩
  | .aluMhl op => some ⟨op, busRead s s.hl, [s.hl], [0b10#2 ++ op.code ++ 6#3], 8⟩
  | .aluN8 op n8 => some ⟨op, n8, [], [0b11#2 ++ op.code ++ 6#3, n8], 8⟩
  | _ => none

/-- What every ALU instruction does around its result: `A` (kept by `CP`), the flags; nothing else. -/
def AluRuns (i : Instr) (s : State) (u : AluUse) (a : Byte) (z n h c : Bool) : Prop :=
  encode i = u.bytes ∧
  Runs i s fun t =>
    t.regs.a = a ∧ FlagsAre t z n h c ∧ RegsKept s t [.a] ∧ t.regs.sp = s.regs.sp ∧
    EndsAt s t (pcn s u.bytes.length) u.cycles ∧ OutsideKept s t u.reads

/-- Bit `n` of the result of a rotate or shift (R259). -/
def shiftBit (op : ShiftOp) (v : Byte) (cin : Bool) (n : Nat) : Bool :=
  match op with
  | .rlc => v.getLsbD ((n + 7) % 8)
  | .rrc => v.getLsbD ((n + 1) % 8)
  | .rl => if n = 0 then cin else v.getLsbD (n - 1)
  | .rr => if n = 7 then cin else v.getLsbD (n + 1)
  | .sla => if n = 0 then false else v.getLsbD (n - 1)
  | .sra => if n = 7 then v.getLsbD 7 else v.getLsbD (n + 1)
  | .swap => v.getLsbD ((n + 4) % 8)
  | .srl => if n = 7 then false else v.getLsbD (n + 1)

/-- The carry out of a rotate or shift (R259). -/
def shiftOut (op : ShiftOp) (v : Byte) : Bool :=
  match op with
  | .rlc | .rl | .sla => v.getLsbD 7
  | .rrc | .rr | .sra | .srl => v.getLsbD 0
  | .swap => false

/-- `r` is the result of `op` on `v`, bit by bit (R259). -/
def IsShift (op : ShiftOp) (v : Byte) (cin : Bool) (r : Byte) : Prop :=
  ∀ n < 8, r.getLsbD n = shiftBit op v cin n

/-- The pair read off the stack: the low byte at `SP`, then the high byte at `SP + 1` (R208). -/
def stackTop (s : State) : Word :=
  busRead (afterRead s s.regs.sp) (s.regs.sp + 1) ++ busRead s s.regs.sp

/-- The source an interrupt entry takes: pending, and none below it is (R329, R333). -/
def IsTaken (pending : Byte) (i : Nat) : Prop := i < 5 ∧ pending.getLsbD i = true ∧ ∀ j < i, pending.getLsbD j = false

/-! ## The invariants -/

/-- The stores are in canonical form. -/
def MemoryOk (s : Board) : Prop :=
  s.memWf ∧ s.bootRom.imageWf ∧ s.cart.rom.imageWf ∧ s.cart.ram.imageWf

/-- `F[3:0] = 0` (R23). -/
def FlagsOk (s : State) : Prop := s.regs.f &&& 0x0F = 0

/-- `bank_lo` is never 0 (R97, R99). -/
def BankOk (s : Board) : Prop := s.cart.bankLo ≠ 0

/-- `P1[3:0]` shows the selected lines (R71, R345). -/
def JoypadOk (s : Board) : Prop := rawRead s Io.p1 = p1Value (rawRead s Io.p1) s.buttons

/-- `STAT[1:0]` shows `ppu_mode` (R41, R362). -/
def StatModeOk (s : Board) : Prop := rawRead s Io.stat &&& 0x03 = s.ppu.mode.code

/-- `NR52[3:0]` shows the `en` flags of channels 4, 3, 2, 1 (R405). -/
def SoundStatusOk (s : Board) : Prop := ∀ ch : Chan, (rawRead s Io.nr52).getLsbD ch.bit = (s.apu.channel ch).en

/-- `LY` and the mode agree (R360, R364, R372): lines 0..143 in modes 2, 3 and 0, lines 144..153 in mode 1 (and the
`PostBoot` entry's line 0 there); line 0, mode 0 while the LCD is disabled (R376, R378). -/
def LineOk (s : Board) : Prop :=
  if lcdcBit s 7 then
    match s.ppu.mode with
    | .vblank => rawRead s Io.ly = 0 ∨ 144 ≤ rawRead s Io.ly ∧ rawRead s Io.ly ≤ 153
    | .hblank | .oamSearch | .transfer => rawRead s Io.ly ≤ 143
  else rawRead s Io.ly = 0 ∧ s.ppu.mode = .hblank

/-- `STAT[2]` shows LY = LYC while the LCD is enabled (R362, R375). -/
def CoincidenceOk (s : Board) : Prop :=
  lcdcBit s 7 = true → (rawRead s Io.stat).getLsbD 2 = decide (rawRead s Io.ly = rawRead s Io.lyc)

/-- The framebuffer has 144 rows of 160 shades (R386), and at most ten sprites are on a line (R380). -/
def FrameOk (s : Board) : Prop :=
  s.ppu.framebuffer.length = 144 ∧ (∀ row ∈ s.ppu.framebuffer, row.length = 160) ∧
  s.ppu.spriteList.length ≤ 10 ∧ ∀ k ∈ s.ppu.spriteList, k < 40

/-- The hidden accumulators stay below their periods between steps (R41, R352, R372, R378, R420). -/
def AccumulatorsOk (s : Board) : Prop :=
  s.timer.divAcc < 256 ∧ s.timer.timaAcc < timaPeriod ((rawRead s Io.tac).extractLsb' 0 2) ∧
  s.ppu.offAcc < 70224 ∧ (lcdcBit s 7 = true → s.ppu.acc < s.ppu.mode.length) ∧
  s.apu.fsAcc < 8192 ∧ s.apu.dsAcc < s.params.apuDownsample

end Sys2Proof.Machine
end

