-- ==== Sys2Proof/Certificates/Slice0/Obligations.lean ====
section
/-! DEFINITION. The statements for the provers: one `def Obligations.<Name> : Prop` each, from the numbered rules of spec/.
A statement about an instruction says, for every form it names, that `exec` answers a next state, what that state holds,
and what it leaves alone (the shapes are in Safety.lean). -/

open Sys2Proof Sys2Proof.Machine

/-- The encoder follows the bit patterns of R151 to R155, the decoder the grids of R162 and R164: they agree on every
instruction and every operand value. -/
def Obligations.DecodeOfEncodeIsTheInstruction : Prop :=
  ∀ (i : Instr) (rest : List Byte), i.WellFormed → decode (encode i ++ rest) = .ok (i, rest)

/-- The other direction of the round trip: every bit of the bytes is in the instruction. -/
def Obligations.EncodeOfDecodeIsTheBytes : Prop :=
  ∀ (bytes : List Byte) (i : Instr) (rest : List Byte), decode bytes = .ok (i, rest) →
    i.WellFormed ∧ encode i ++ rest = bytes

/-- A sanity statement: words written out bit by bit from R140 to R156. -/
def Obligations.DecoderReadsTheWordsOfTheSpec : Prop :=
  decode [0b10000000] = .ok (.addAB, []) ∧
  decode [0b00110001, 0x66, 0x77] = .ok (.ldSpN16 0x7766, []) ∧
  decode [0b00100000, 0xFB] = .ok (.jrNzE8 0xFB, []) ∧
  decode [0b00110110, 0x12] = .ok (.ldMhlN8 0x12, []) ∧
  decode [0b11001011, 0b01111100] = .ok (.bit7H, []) ∧
  decode [0b11001011, 0b00110111] = .ok (.swapA, []) ∧
  decode [0b11101111] = .ok (.rst28, []) ∧
  decode [0b01110110] = .ok (.halt, []) ∧
  decode [0b11011101] = .ok (.illegalDD, [])

/-- R7, R142, R330: how the statements about `exec` reach a run. -/
def Obligations.StepRunsTheDecodedInstruction : Prop :=
  ∀ (s : State) (i : Instr) (rest : List Byte),
    s.ctl.faulted = none → s.ctl.stopped = false → s.ctl.halted = false → s.ctl.haltBug = false → s.hostMoves = [] →
    (s.ctl.ime = false ∨ pendingInterrupts s.board = 0) →
    s.region s.regs.pc ≠ .crash → s.region (s.regs.pc + 1) ≠ .crash → s.region (s.regs.pc + 2) ≠ .crash →
    decode [busRead s s.regs.pc, busRead s (s.regs.pc + 1), busRead s (s.regs.pc + 2)] = .ok (i, rest) →
    Sys2Proof.Machine.step s =
      match exec i s with
      | .next t => .next (stepPeripherals (t.clock - s.clock) (enableAfter s.ctl.imeSched i t))
      | .fault r => .fault r
      | .refused r => .refused r

/-- R311 and R315. HALT is left out of the first clause because it may set the bit again; an illegal byte takes no
operand byte. -/
def Obligations.HaltBugReadsTheByteTwice : Prop :=
  (∀ (s : State) (i : Instr) (rest : List Byte),
    s.ctl.halted = false → s.ctl.haltBug = true → (s.ctl.ime = false ∨ pendingInterrupts s.board = 0) →
    s.region s.regs.pc ≠ .crash → s.region (s.regs.pc + 1) ≠ .crash →
    decode [busRead s s.regs.pc, busRead s s.regs.pc, busRead s (s.regs.pc + 1)] = .ok (i, rest) → i.form ≠ .halt →
    (∀ op, i.form ≠ .illegal op) →
    CpuStepRuns s fun t => ∃ u, exec i s = .next u ∧ t = enableAfter s.ctl.imeSched i u ∧ t.ctl.haltBug = false) ∧
  decode [0xCB, 0xCB] = .ok (.set1E, [])

/-- R329, R333 (and R331: a halted machine wakes into the entry; R332: when it is taken). -/
def Obligations.InterruptEntrySavesPcAndGoesToTheVector : Prop :=
  ∀ (s : State), s.ctl.ime = true → pendingInterrupts s.board ≠ 0 →
    ∃ i : Nat, IsTaken (pendingInterrupts s.board) i ∧ (∀ j, IsTaken (pendingInterrupts s.board) j → j = i) ∧
      CpuStepRuns s fun t =>
        let ret := if s.ctl.haltBug then s.regs.pc - 1 else s.regs.pc
        let acked := { s with board := rawWrite s.board 0xFF0F (rawRead s.board 0xFF0F &&& ~~~(1#8 <<< i)) }
        t.regs = { s.regs with sp := s.regs.sp - 2, pc := BitVec.ofNat 16 (0x40 + 8 * i) } ∧
        t.clock = s.clock + 20 ∧
        t.ctl = { s.ctl with ime := false, imeSched := false, halted := false, haltBug := false } ∧
        StoredTwice acked t (s.regs.sp - 1) (ret.extractLsb' 8 8) (s.regs.sp - 2) (ret.extractLsb' 0 8) ∧
        (s.region (s.regs.sp - 1) ≠ .io → s.region (s.regs.sp - 2) ≠ .io →
          rawRead t.board 0xFF0F = rawRead s.board 0xFF0F &&& ~~~(1#8 <<< i))

/-- R331. -/
def Obligations.HaltedCpuIdlesUntilSomethingIsPending : Prop :=
  (∀ s : State, s.ctl.halted = true → pendingInterrupts s.board = 0 →
    cpuStep s = .next { s with clock := s.clock + 4 } ∧
    (s.ctl.faulted = none → s.ctl.stopped = false → s.hostMoves = [] →
      Sys2Proof.Machine.step s = .next (stepPeripherals 4 { s with clock := s.clock + 4 }))) ∧
  (∀ s : State, s.ctl.halted = true → pendingInterrupts s.board ≠ 0 →
    cpuStep s = cpuStep { s with ctl := { s.ctl with halted := false } } ∧
    (s.ctl.ime = false → cpuStep s = runInstruction { s with ctl := { s.ctl with halted := false } }))

/-- R33, R35, R312, R326, R346, R465; the schedule is log entry 9. -/
def Obligations.FaultedAndStoppedMachinesTakeNoStep : Prop :=
  (∀ (s : State) (r : IllegalRecord), s.ctl.faulted = some r →
    Sys2Proof.Machine.step s = .fault (.illegalOpcode r.op r.pc0 s)) ∧
  (∀ s : State, s.ctl.faulted = none → s.ctl.stopped = true → s.hostMoves = [] →
    Sys2Proof.Machine.step s = .fault (.stuckInStop s)) ∧
  (∀ (s : State) (ms : List (List Byte)), s.ctl.faulted = none → s.hostMoves = [] :: ms →
    Sys2Proof.Machine.step s =
      if s.ctl.stopped = true then .next { s with hostMoves := ms } else systemStep { s with hostMoves := ms }) ∧
  (∀ (s : State) (b : Byte) (bs : List Byte) (ms : List (List Byte)), s.hostMoves = (b :: bs) :: ms →
    let u := setButtons b { s with hostMoves := bs :: ms }
    (s.ctl.faulted = none → Sys2Proof.Machine.step s = Sys2Proof.Machine.step u) ∧
    u.ctl = if rawRead s.board 0xFF00 &&& 0x0F &&& ~~~(rawRead u.board 0xFF00) = 0 then s.ctl
      else { s.ctl with stopped := false })

/-- R31, R314, R330, R481. -/
def Obligations.EnableTakesEffectAfterTheNextInstruction : Prop :=
  ∀ (s t : State), s.ctl.halted = false → (s.ctl.ime = false ∨ pendingInterrupts s.board = 0) → cpuStep s = .next t →
    (s.ctl.imeSched = true →
      t.ctl.imeSched = false ∧ ((fetch s).1 ≠ .di → t.ctl.ime = true) ∧ ((fetch s).1 = .di → t.ctl.ime = false)) ∧
    (s.ctl.imeSched = false → exec (fetch s).1 (fetch s).2 = .next t)

/-- R35, R156, R316, R326. That the frozen state keeps `halt_bug` where the byte is fetched under it is the model's
(DESIGN CHOICE, log entry 21). Constructors: illegalD3, illegalDB, illegalDD, illegalE3, illegalE4, illegalEB,
illegalEC, illegalED, illegalF4, illegalFC, illegalFD. -/
def Obligations.IllegalOpcodesFault : Prop :=
  (∀ (op : Byte) (rest : List Byte) (i : Instr) (after : List Byte), decode (op :: rest) = .ok (i, after) →
    ((∃ o, i.form = .illegal o) ↔
      op ∈ ([0xD3, 0xDB, 0xDD, 0xE3, 0xE4, 0xEB, 0xEC, 0xED, 0xF4, 0xFC, 0xFD] : List Byte))) ∧
  (∀ (i : Instr) (op : Byte) (s : State), i.form = .illegal op →
    encode i = [op] ∧
    exec i s = .fault (.illegalOpcode op s.regs.pc { s with ctl := { s.ctl with faulted := some ⟨op, s.regs.pc⟩ } })) ∧
  (∀ s : State, s.ctl.faulted = none → s.ctl.stopped = false → s.ctl.halted = false → s.hostMoves = [] →
    (s.ctl.ime = false ∨ pendingInterrupts s.board = 0) → s.region s.regs.pc ≠ .crash →
    busRead s s.regs.pc ∈ ([0xD3, 0xDB, 0xDD, 0xE3, 0xE4, 0xEB, 0xEC, 0xED, 0xF4, 0xFC, 0xFD] : List Byte) →
    let frozen : State := { s with ctl := { s.ctl with faulted := some ⟨busRead s s.regs.pc, s.regs.pc⟩ } }
    Sys2Proof.Machine.step s = .fault (.illegalOpcode (busRead s s.regs.pc) s.regs.pc frozen) ∧
    Sys2Proof.Machine.step frozen = .fault (.illegalOpcode (busRead s s.regs.pc) s.regs.pc frozen))

/-- R155, R315. Constructors: prefixCb. -/
def Obligations.PrefixRunsTheSelectedInstruction : Prop :=
  ∀ (opcode2 : Byte) (s : State),
    encode (.prefixCb opcode2) = [0xCB, opcode2] ∧
    ∃ i : Instr, decode [0xCB, opcode2] = .ok (i, []) ∧ exec (.prefixCb opcode2) s = exec i s ∧
      Runs (.prefixCb opcode2) s fun t => t.regs.pc = pcn s 2

/-- R171, R172. Constructors: ldBB, ldBC, ldBD, ldBE, ldBH, ldBL, ldBA, ldCB, ldCC, ldCD, ldCE, ldCH, ldCL, ldCA, ldDB,
ldDC, ldDD, ldDE, ldDH, ldDL, ldDA, ldEB, ldEC, ldED, ldEE, ldEH, ldEL, ldEA, ldHB, ldHC, ldHD, ldHE, ldHH, ldHL,
ldHA, ldLB, ldLC, ldLD, ldLE, ldLH, ldLL, ldLA, ldAB, ldAC, ldAD, ldAE, ldAH, ldAL, ldAA, ldBN8, ldCN8, ldDN8,
ldEN8, ldHN8, ldLN8, ldAN8. -/
def Obligations.RegisterLoads : Prop :=
  ∀ (i : Instr) (s : State) (dst : Reg8),
    (∀ src, i.form = .ldRegReg dst src →
      encode i = [0b01#2 ++ dst.code ++ src.code] ∧
      Runs i s fun t =>
        t.reg dst = s.reg src ∧ RegsKept s t [dst] ∧ t.regs.f = s.regs.f ∧ t.regs.sp = s.regs.sp ∧
        EndsAt s t (pcn s 1) 4 ∧ OutsideKept s t []) ∧
    (∀ n8, i.form = .ldRegN8 dst n8 →
      encode i = [0b00#2 ++ dst.code ++ 0b110#3, n8] ∧
      Runs i s fun t =>
        t.reg dst = n8 ∧ RegsKept s t [dst] ∧ t.regs.f = s.regs.f ∧ t.regs.sp = s.regs.sp ∧
        EndsAt s t (pcn s 2) 8 ∧ OutsideKept s t [])

/-- R173, R176, R177, R180, R188, R190. Constructors: ldBMhl, ldCMhl, ldDMhl, ldEMhl, ldHMhl, ldLMhl, ldAMhl, ldAMbc,
ldAMde, ldAMa16, ldhAMa8, ldAMc. -/
def Obligations.LoadsFromMemory : Prop :=
  ∀ (i : Instr) (s : State),
    (∀ dst, i.form = .ldRegMhl dst → encode i = [0b01#2 ++ dst.code ++ 0b110#3] ∧ LoadsByte i s dst s.hl 1 8) ∧
    (i.form = .ldAMbc → encode i = [0x0A] ∧ LoadsByte i s .a s.bc 1 8) ∧
    (i.form = .ldAMde → encode i = [0x1A] ∧ LoadsByte i s .a s.de 1 8) ∧
    (∀ a16, i.form = .ldAMa16 a16 →
      encode i = [0xFA, a16.extractLsb' 0 8, a16.extractLsb' 8 8] ∧ LoadsByte i s .a a16 3 16) ∧
    (∀ a8, i.form = .ldhAMa8 a8 →
      encode i = [0xF0, a8] ∧ LoadsByte i s .a (0xFF00 + a8.setWidth 16) 2 12) ∧
    (i.form = .ldAMc → encode i = [0xF2] ∧ LoadsByte i s .a (0xFF00 + s.regs.c.setWidth 16) 1 8)

/-- R174, R175, R178, R179, R181, R187, R189. Constructors: ldMhlB, ldMhlC, ldMhlD, ldMhlE, ldMhlH, ldMhlL, ldMhlA,
ldMhlN8, ldMbcA, ldMdeA, ldMa16A, ldhMa8A, ldMcA. -/
def Obligations.StoresToMemory : Prop :=
  ∀ (i : Instr) (s : State),
    (∀ src, i.form = .ldMhlReg src →
      encode i = [0b01#2 ++ 0b110#3 ++ src.code] ∧ StoresByte i s s.hl (s.reg src) 1 8) ∧
    (∀ n8, i.form = .ldMhlN8 n8 → encode i = [0x36, n8] ∧ StoresByte i s s.hl n8 2 12) ∧
    (i.form = .ldMbcA → encode i = [0x02] ∧ StoresByte i s s.bc s.regs.a 1 8) ∧
    (i.form = .ldMdeA → encode i = [0x12] ∧ StoresByte i s s.de s.regs.a 1 8) ∧
    (∀ a16, i.form = .ldMa16A a16 →
      encode i = [0xEA, a16.extractLsb' 0 8, a16.extractLsb' 8 8] ∧ StoresByte i s a16 s.regs.a 3 16) ∧
    (∀ a8, i.form = .ldhMa8A a8 →
      encode i = [0xE0, a8] ∧ StoresByte i s (0xFF00 + a8.setWidth 16) s.regs.a 2 12) ∧
    (i.form = .ldMcA → encode i = [0xE2] ∧ StoresByte i s (0xFF00 + s.regs.c.setWidth 16) s.regs.a 1 8)

/-- R182 to R185. Constructors: ldMhliA, ldMhldA, ldAMhli, ldAMhld. -/
def Obligations.SteppingLoadsAndStoresMoveHl : Prop :=
  ∀ (i : Instr) (s : State) (move : Word) (op : Byte),
    (i.form = .ldMhliA ∧ move = 1 ∧ op = 0x22 ∨ i.form = .ldMhldA ∧ move = -1 ∧ op = 0x32 →
      encode i = [op] ∧
      Runs i s fun t =>
        t.hl = s.hl + move ∧ RegsKept s t [.h, .l] ∧ t.regs.f = s.regs.f ∧ t.regs.sp = s.regs.sp ∧
        EndsAt s t (pcn s 1) 8 ∧ Stored s t s.hl s.regs.a) ∧
    (i.form = .ldAMhli ∧ move = 1 ∧ op = 0x2A ∨ i.form = .ldAMhld ∧ move = -1 ∧ op = 0x3A →
      encode i = [op] ∧
      Runs i s fun t =>
        t.regs.a = busRead s s.hl ∧ t.hl = s.hl + move ∧ RegsKept s t [.a, .h, .l] ∧ t.regs.f = s.regs.f ∧
        t.regs.sp = s.regs.sp ∧ EndsAt s t (pcn s 1) 8 ∧ OutsideKept s t [s.hl])

/-- R200, R202. Constructors: ldBcN16, ldDeN16, ldHlN16, ldSpN16, ldSpHl. -/
def Obligations.PairLoads : Prop :=
  ∀ (i : Instr) (s : State),
    (∀ p n16, i.form = .ldR16N16 p n16 →
      encode i = [0b00#2 ++ p.code ++ 0b0001#4, n16.extractLsb' 0 8, n16.extractLsb' 8 8] ∧
      Runs i s fun t =>
        t.reg16 p = n16 ∧ (∀ q, q ≠ p → t.reg16 q = s.reg16 q) ∧ t.regs.a = s.regs.a ∧ t.regs.f = s.regs.f ∧
        EndsAt s t (pcn s 3) 12 ∧ OutsideKept s t []) ∧
    (i.form = .ldSpHl → encode i = [0xF9] ∧
      Runs i s fun t =>
        t.regs.sp = s.hl ∧ RegsKept s t [] ∧ t.regs.f = s.regs.f ∧ EndsAt s t (pcn s 1) 8 ∧ OutsideKept s t [])

/-- R201. Constructors: ldMa16Sp. -/
def Obligations.StoreOfSpIsLittleEndian : Prop :=
  ∀ (i : Instr) (s : State) (a16 : Word), i.form = .ldMa16Sp a16 →
    encode i = [0x08, a16.extractLsb' 0 8, a16.extractLsb' 8 8] ∧
    Runs i s fun t =>
      RegsKept s t [] ∧ t.regs.f = s.regs.f ∧ t.regs.sp = s.regs.sp ∧ EndsAt s t (pcn s 3) 20 ∧
      StoredTwice s t a16 (s.regs.sp.extractLsb' 0 8) (a16 + 1) (s.regs.sp.extractLsb' 8 8)

/-- R203, R253. Constructors: ldHlSpE8, addSpE8. -/
def Obligations.SpPlusDisplacement : Prop :=
  ∀ (i : Instr) (s : State) (e8 : Byte),
    let sum : Int := s.regs.sp.toNat + e8.toInt
    let h := decide (15 < s.regs.sp.toNat % 16 + e8.toNat % 16)
    let c := decide (255 < s.regs.sp.toNat % 256 + e8.toNat)
    (i.form = .ldHlSpE8 e8 → encode i = [0xF8, e8] ∧
      Runs i s fun t =>
        (t.hl.toNat : Int) = sum % 0x10000 ∧ FlagsAre t false false h c ∧ RegsKept s t [.h, .l] ∧
        t.regs.sp = s.regs.sp ∧ EndsAt s t (pcn s 2) 12 ∧ OutsideKept s t []) ∧
    (i.form = .addSpE8 e8 → encode i = [0xE8, e8] ∧
      Runs i s fun t =>
        (t.regs.sp.toNat : Int) = sum % 0x10000 ∧ FlagsAre t false false h c ∧ RegsKept s t [] ∧
        EndsAt s t (pcn s 2) 16 ∧ OutsideKept s t [])

/-- R207. Constructors: pushBc, pushDe, pushHl, pushAf. -/
def Obligations.PushStoresThePair : Prop :=
  ∀ (i : Instr) (s : State) (p : Reg16s), i.form = .push p →
    encode i = [0b11#2 ++ p.code ++ 0b0101#4] ∧
    Runs i s fun t =>
      t.regs.sp = s.regs.sp - 2 ∧ RegsKept s t [] ∧ t.regs.f = s.regs.f ∧ EndsAt s t (pcn s 1) 16 ∧
      StoredTwice s t (s.regs.sp - 1) ((s.reg16s p).extractLsb' 8 8) (s.regs.sp - 2) ((s.reg16s p).extractLsb' 0 8)

/-- R208. Constructors: popBc, popDe, popHl, popAf. -/
def Obligations.PopLoadsThePair : Prop :=
  ∀ (i : Instr) (s : State) (p : Reg16s), i.form = .pop p →
    encode i = [0b11#2 ++ p.code ++ 0b0001#4] ∧
    Runs i s fun t =>
      t.reg16s p = (if p = .af then stackTop s &&& 0xFFF0 else stackTop s) ∧ (∀ q, q ≠ p → t.reg16s q = s.reg16s q) ∧
      t.regs.sp = s.regs.sp + 2 ∧ EndsAt s t (pcn s 1) 12 ∧ OutsideKept s t [s.regs.sp, s.regs.sp + 1]

/-- R215 (`add8`), R216 to R221. Constructors: addAB, addAC, addAD, addAE, addAH, addAL, addAA, addAMhl, addAN8, adcAB,
adcAC, adcAD, adcAE, adcAH, adcAL, adcAA, adcAMhl, adcAN8. -/
def Obligations.AdditionsAndTheirFlags : Prop :=
  ∀ (i : Instr) (s : State) (u : AluUse), aluUse s i.form = some u → u.op = .add ∨ u.op = .adc →
    let cin : Nat := if u.op = .adc ∧ s.flagC = true then 1 else 0
    let sum : Nat := s.regs.a.toNat + u.x.toNat + cin
    AluRuns i s u (BitVec.ofNat 8 sum) (decide (sum % 256 = 0)) false
      (decide (15 < s.regs.a.toNat % 16 + u.x.toNat % 16 + cin)) (decide (255 < sum))

/-- R215 (`sub8`), R222 to R227, R237 to R239. Constructors: subB, subC, subD, subE, subH, subL, subA, subMhl, subN8,
sbcAB, sbcAC, sbcAD, sbcAE, sbcAH, sbcAL, sbcAA, sbcAMhl, sbcAN8, cpB, cpC, cpD, cpE, cpH, cpL, cpA, cpMhl, cpN8. -/
def Obligations.SubtractionsAndTheirFlags : Prop :=
  ∀ (i : Instr) (s : State) (u : AluUse), aluUse s i.form = some u → u.op = .sub ∨ u.op = .sbc ∨ u.op = .cp →
    let bin : Nat := if u.op = .sbc ∧ s.flagC = true then 1 else 0
    let diff : Byte := s.regs.a - u.x - BitVec.ofNat 8 bin
    AluRuns i s u (if u.op = .cp then s.regs.a else diff) (decide (diff = 0)) true
      (decide (s.regs.a.toNat % 16 < u.x.toNat % 16 + bin)) (decide (s.regs.a.toNat < u.x.toNat + bin))

/-- R228 to R236. Constructors: andB, andC, andD, andE, andH, andL, andA, andMhl, andN8, xorB, xorC, xorD, xorE, xorH,
xorL, xorA, xorMhl, xorN8, orB, orC, orD, orE, orH, orL, orA, orMhl, orN8. -/
def Obligations.LogicOperationsAndTheirFlags : Prop :=
  ∀ (i : Instr) (s : State) (u : AluUse), aluUse s i.form = some u → u.op = .and ∨ u.op = .xor ∨ u.op = .or →
    let r : Byte :=
      if u.op = .and then s.regs.a &&& u.x else if u.op = .xor then s.regs.a ^^^ u.x else s.regs.a ||| u.x
    AluRuns i s u r (decide (r = 0)) false (decide (u.op = .and)) false

/-- R240 to R243. Constructors: incB, incC, incD, incE, incH, incL, incA, decB, decC, decD, decE, decH, decL, decA,
incMhl, decMhl. -/
def Obligations.IncrementAndDecrementOfAByte : Prop :=
  ∀ (i : Instr) (s : State),
    (∀ r, i.form = .incReg r → encode i = [0b00#2 ++ r.code ++ 0b100#3] ∧
      Runs i s fun t =>
        t.reg r = s.reg r + 1 ∧ FlagsAre t (decide (s.reg r = 0xFF)) false (decide ((s.reg r).toNat % 16 = 15)) s.flagC ∧
        RegsKept s t [r] ∧ t.regs.sp = s.regs.sp ∧ EndsAt s t (pcn s 1) 4 ∧ OutsideKept s t []) ∧
    (∀ r, i.form = .decReg r → encode i = [0b00#2 ++ r.code ++ 0b101#3] ∧
      Runs i s fun t =>
        t.reg r = s.reg r - 1 ∧ FlagsAre t (decide (s.reg r = 0x01)) true (decide ((s.reg r).toNat % 16 = 0)) s.flagC ∧
        RegsKept s t [r] ∧ t.regs.sp = s.regs.sp ∧ EndsAt s t (pcn s 1) 4 ∧ OutsideKept s t []) ∧
    (i.form = .incMhl → encode i = [0x34] ∧
      Runs i s fun t =>
        FlagsAre t (decide (busRead s s.hl = 0xFF)) false (decide ((busRead s s.hl).toNat % 16 = 15)) s.flagC ∧
        RegsKept s t [] ∧ t.regs.sp = s.regs.sp ∧ EndsAt s t (pcn s 1) 12 ∧
        Stored (afterRead s s.hl) t s.hl (busRead s s.hl + 1)) ∧
    (i.form = .decMhl → encode i = [0x35] ∧
      Runs i s fun t =>
        FlagsAre t (decide (busRead s s.hl = 0x01)) true (decide ((busRead s s.hl).toNat % 16 = 0)) s.flagC ∧
        RegsKept s t [] ∧ t.regs.sp = s.regs.sp ∧ EndsAt s t (pcn s 1) 12 ∧
        Stored (afterRead s s.hl) t s.hl (busRead s s.hl - 1))

/-- R244. Constructors: daa. -/
def Obligations.DecimalAdjust : Prop :=
  ∀ (i : Instr) (s : State), i.form = .daa →
    let a := s.regs.a.toNat
    let low : Nat := if s.flagH = true ∨ s.flagN = false ∧ 9 < a % 16 then 0x06 else 0
    let carry : Bool := s.flagC || (!s.flagN && decide (0x99 < a))
    let adj : Nat := low + (if carry then 0x60 else 0)
    let r : Nat := if s.flagN then (a + 256 - adj) % 256 else (a + adj) % 256
    encode i = [0x27] ∧
    Runs i s fun t =>
      t.regs.a.toNat = r ∧ FlagsAre t (decide (r = 0)) s.flagN false carry ∧ RegsKept s t [.a] ∧
      t.regs.sp = s.regs.sp ∧ EndsAt s t (pcn s 1) 4 ∧ OutsideKept s t []

/-- R245 to R247. Constructors: cpl, scf, ccf. -/
def Obligations.ComplementAndCarryInstructions : Prop :=
  ∀ (i : Instr) (s : State),
    (i.form = .cpl → encode i = [0x2F] ∧
      Runs i s fun t =>
        t.regs.a = ~~~s.regs.a ∧ FlagsAre t s.flagZ true true s.flagC ∧ RegsKept s t [.a] ∧ t.regs.sp = s.regs.sp ∧
        EndsAt s t (pcn s 1) 4 ∧ OutsideKept s t []) ∧
    (i.form = .scf → encode i = [0x37] ∧
      Runs i s fun t =>
        FlagsAre t s.flagZ false false true ∧ RegsKept s t [] ∧ t.regs.sp = s.regs.sp ∧
        EndsAt s t (pcn s 1) 4 ∧ OutsideKept s t []) ∧
    (i.form = .ccf → encode i = [0x3F] ∧
      Runs i s fun t =>
        FlagsAre t s.flagZ false false (!s.flagC) ∧ RegsKept s t [] ∧ t.regs.sp = s.regs.sp ∧
        EndsAt s t (pcn s 1) 4 ∧ OutsideKept s t [])

/-- R250. Constructors: addHlBc, addHlDe, addHlHl, addHlSp. -/
def Obligations.AddToHl : Prop :=
  ∀ (i : Instr) (s : State) (p : Reg16), i.form = .addHlR16 p →
    let v := s.reg16 p
    encode i = [0b00#2 ++ p.code ++ 0b1001#4] ∧
    Runs i s fun t =>
      t.hl.toNat = (s.hl.toNat + v.toNat) % 0x10000 ∧
      FlagsAre t s.flagZ false (decide (0xFFF < s.hl.toNat % 0x1000 + v.toNat % 0x1000))
        (decide (0xFFFF < s.hl.toNat + v.toNat)) ∧
      RegsKept s t [.h, .l] ∧ t.regs.sp = s.regs.sp ∧ EndsAt s t (pcn s 1) 8 ∧ OutsideKept s t []

/-- R251, R252. Constructors: incBc, incDe, incHl, incSp, decBc, decDe, decHl, decSp. -/
def Obligations.IncrementAndDecrementOfAPair : Prop :=
  ∀ (i : Instr) (s : State) (p : Reg16),
    (i.form = .incR16 p → encode i = [0b00#2 ++ p.code ++ 0b0011#4] ∧
      Runs i s fun t =>
        t.reg16 p = s.reg16 p + 1 ∧ (∀ q, q ≠ p → t.reg16 q = s.reg16 q) ∧ t.regs.a = s.regs.a ∧
        t.regs.f = s.regs.f ∧ EndsAt s t (pcn s 1) 8 ∧ OutsideKept s t []) ∧
    (i.form = .decR16 p → encode i = [0b00#2 ++ p.code ++ 0b1011#4] ∧
      Runs i s fun t =>
        t.reg16 p = s.reg16 p - 1 ∧ (∀ q, q ≠ p → t.reg16 q = s.reg16 q) ∧ t.regs.a = s.regs.a ∧
        t.regs.f = s.regs.f ∧ EndsAt s t (pcn s 1) 8 ∧ OutsideKept s t [])

/-- R260 to R263, R265, R267, R269, R271, R273, R275, R277, R279. Constructors: rlca, rrca, rla, rra, rlcB, rlcC, rlcD,
rlcE, rlcH, rlcL, rlcA, rrcB, rrcC, rrcD, rrcE, rrcH, rrcL, rrcA, rlB, rlC, rlD, rlE, rlH, rlL, rlA, rrB, rrC, rrD,
rrE, rrH, rrL, rrA, slaB, slaC, slaD, slaE, slaH, slaL, slaA, sraB, sraC, sraD, sraE, sraH, sraL, sraA, swapB,
swapC, swapD, swapE, swapH, swapL, swapA, srlB, srlC, srlD, srlE, srlH, srlL, srlA. -/
def Obligations.RotatesAndShiftsOfARegister : Prop :=
  ∀ (i : Instr) (s : State) (op : ShiftOp),
    (∀ byte : Byte,
      i.form = .rlca ∧ op = .rlc ∧ byte = 0x07 ∨ i.form = .rrca ∧ op = .rrc ∧ byte = 0x0F ∨
      i.form = .rla ∧ op = .rl ∧ byte = 0x17 ∨ i.form = .rra ∧ op = .rr ∧ byte = 0x1F →
      encode i = [byte] ∧
      Runs i s fun t =>
        IsShift op s.regs.a s.flagC t.regs.a ∧ FlagsAre t false false false (shiftOut op s.regs.a) ∧ RegsKept s t [.a] ∧
        t.regs.sp = s.regs.sp ∧ EndsAt s t (pcn s 1) 4 ∧ OutsideKept s t []) ∧
    (∀ r, i.form = .shiftReg op r →
      encode i = [0xCB, 0b00#2 ++ op.code ++ r.code] ∧
      Runs i s fun t =>
        IsShift op (s.reg r) s.flagC (t.reg r) ∧
        FlagsAre t (decide (t.reg r = 0)) false false (shiftOut op (s.reg r)) ∧ RegsKept s t [r] ∧
        t.regs.sp = s.regs.sp ∧ EndsAt s t (pcn s 2) 8 ∧ OutsideKept s t [])

/-- R82, R266, R268, R270, R272, R274, R276, R278, R280. Constructors: rlcMhl, rrcMhl, rlMhl, rrMhl, slaMhl, sraMhl,
swapMhl, srlMhl. -/
def Obligations.ShiftsInMemory : Prop :=
  ∀ (i : Instr) (s : State) (op : ShiftOp), i.form = .shiftMhl op →
    encode i = [0xCB, 0b00#2 ++ op.code ++ 0b110#3] ∧
    ∃ r : Byte, IsShift op (busRead s s.hl) s.flagC r ∧
      Runs i s fun t =>
        FlagsAre t (decide (r = 0)) false false (shiftOut op (busRead s s.hl)) ∧ RegsKept s t [] ∧
        t.regs.sp = s.regs.sp ∧ EndsAt s t (pcn s 2) 16 ∧ Stored (afterRead s s.hl) t s.hl r

/-- R281, R282. Constructors: bit0B, bit0C, bit0D, bit0E, bit0H, bit0L, bit0A, bit1B, bit1C, bit1D, bit1E, bit1H, bit1L,
bit1A, bit2B, bit2C, bit2D, bit2E, bit2H, bit2L, bit2A, bit3B, bit3C, bit3D, bit3E, bit3H, bit3L, bit3A, bit4B,
bit4C, bit4D, bit4E, bit4H, bit4L, bit4A, bit5B, bit5C, bit5D, bit5E, bit5H, bit5L, bit5A, bit6B, bit6C, bit6D,
bit6E, bit6H, bit6L, bit6A, bit7B, bit7C, bit7D, bit7E, bit7H, bit7L, bit7A, bit0Mhl, bit1Mhl, bit2Mhl, bit3Mhl,
bit4Mhl, bit5Mhl, bit6Mhl, bit7Mhl. -/
def Obligations.BitTests : Prop :=
  ∀ (i : Instr) (s : State) (b : BitVec 3),
    (∀ r, i.form = .bitReg b r → encode i = [0xCB, 0b01#2 ++ b ++ r.code] ∧
      Runs i s fun t =>
        FlagsAre t (!(s.reg r).getLsbD b.toNat) false true s.flagC ∧ RegsKept s t [] ∧ t.regs.sp = s.regs.sp ∧
        EndsAt s t (pcn s 2) 8 ∧ OutsideKept s t []) ∧
    (i.form = .bitMhl b → encode i = [0xCB, 0b01#2 ++ b ++ 0b110#3] ∧
      Runs i s fun t =>
        FlagsAre t (!(busRead s s.hl).getLsbD b.toNat) false true s.flagC ∧ RegsKept s t [] ∧ t.regs.sp = s.regs.sp ∧
        EndsAt s t (pcn s 2) 12 ∧ OutsideKept s t [s.hl])

/-- R82, R283 to R286. Constructors: res0B, res0C, res0D, res0E, res0H, res0L, res0A, res1B, res1C, res1D, res1E, res1H,
res1L, res1A, res2B, res2C, res2D, res2E, res2H, res2L, res2A, res3B, res3C, res3D, res3E, res3H, res3L, res3A,
res4B, res4C, res4D, res4E, res4H, res4L, res4A, res5B, res5C, res5D, res5E, res5H, res5L, res5A, res6B, res6C,
res6D, res6E, res6H, res6L, res6A, res7B, res7C, res7D, res7E, res7H, res7L, res7A, res0Mhl, res1Mhl, res2Mhl,
res3Mhl, res4Mhl, res5Mhl, res6Mhl, res7Mhl, set0B, set0C, set0D, set0E, set0H, set0L, set0A, set1B, set1C, set1D,
set1E, set1H, set1L, set1A, set2B, set2C, set2D, set2E, set2H, set2L, set2A, set3B, set3C, set3D, set3E, set3H,
set3L, set3A, set4B, set4C, set4D, set4E, set4H, set4L, set4A, set5B, set5C, set5D, set5E, set5H, set5L, set5A,
set6B, set6C, set6D, set6E, set6H, set6L, set6A, set7B, set7C, set7D, set7E, set7H, set7L, set7A, set0Mhl, set1Mhl,
set2Mhl, set3Mhl, set4Mhl, set5Mhl, set6Mhl, set7Mhl. -/
def Obligations.BitResetAndSet : Prop :=
  ∀ (i : Instr) (s : State) (b : BitVec 3) (on : Bool),
    (∀ r, i.form = (if on then .setReg b r else .resReg b r) →
      encode i = [0xCB, (if on then 0b11#2 else 0b10#2) ++ b ++ r.code] ∧
      Runs i s fun t =>
        (∀ n < 8, (t.reg r).getLsbD n = if n = b.toNat then on else (s.reg r).getLsbD n) ∧ RegsKept s t [r] ∧
        t.regs.f = s.regs.f ∧ t.regs.sp = s.regs.sp ∧ EndsAt s t (pcn s 2) 8 ∧ OutsideKept s t []) ∧
    (i.form = (if on then .setMhl b else .resMhl b) →
      encode i = [0xCB, (if on then 0b11#2 else 0b10#2) ++ b ++ 0b110#3] ∧
      ∃ v : Byte, (∀ n < 8, v.getLsbD n = if n = b.toNat then on else (busRead s s.hl).getLsbD n) ∧
        Runs i s fun t =>
          RegsKept s t [] ∧ t.regs.f = s.regs.f ∧ t.regs.sp = s.regs.sp ∧ EndsAt s t (pcn s 2) 16 ∧
          Stored (afterRead s s.hl) t s.hl v)

/-- R291 to R295. Constructors: jpA16, jpNzA16, jpZA16, jpNcA16, jpCA16, jpHl, jrE8, jrNzE8, jrZE8, jrNcE8, jrCE8. -/
def Obligations.JumpsGoToTheirTarget : Prop :=
  ∀ (i : Instr) (s : State) (pc : Word) (cycles : Nat) (bytes : List Byte),
    ((∃ a16, i.form = .jp a16 ∧ pc = a16 ∧ cycles = 16 ∧ bytes = [0xC3, a16.extractLsb' 0 8, a16.extractLsb' 8 8]) ∨
     (∃ cc a16, i.form = .jpCc cc a16 ∧ pc = (if s.holds cc then a16 else pcn s 3) ∧
        cycles = (if s.holds cc then 16 else 12) ∧
        bytes = [0b110#3 ++ cc.code ++ 0b010#3, a16.extractLsb' 0 8, a16.extractLsb' 8 8]) ∨
     (i.form = .jpHl ∧ pc = s.hl ∧ cycles = 4 ∧ bytes = [0xE9]) ∨
     (∃ e8 : Byte, i.form = .jr e8 ∧ pc = pcn s 2 + e8.signExtend 16 ∧ cycles = 12 ∧ bytes = [0x18, e8]) ∨
     (∃ cc, ∃ e8 : Byte, i.form = .jrCc cc e8 ∧ pc = (if s.holds cc then pcn s 2 + e8.signExtend 16 else pcn s 2) ∧
        cycles = (if s.holds cc then 12 else 8) ∧ bytes = [0b001#3 ++ cc.code ++ 0b000#3, e8])) →
    encode i = bytes ∧
    Runs i s fun t =>
      RegsKept s t [] ∧ t.regs.f = s.regs.f ∧ t.regs.sp = s.regs.sp ∧ EndsAt s t pc cycles ∧ OutsideKept s t []

/-- R296, R297, R303. Constructors: callA16, callNzA16, callZA16, callNcA16, callCA16, rst00, rst08, rst10, rst18,
rst20, rst28, rst30, rst38. -/
def Obligations.CallsPushTheReturnAddress : Prop :=
  ∀ (i : Instr) (s : State),
    (∀ (ret target : Word) (cycles : Nat) (bytes : List Byte),
      (i.form = .call target ∧ ret = pcn s 3 ∧ cycles = 24 ∧
        bytes = [0xCD, target.extractLsb' 0 8, target.extractLsb' 8 8]) ∨
      (∃ cc, i.form = .callCc cc target ∧ s.holds cc = true ∧ ret = pcn s 3 ∧ cycles = 24 ∧
        bytes = [0b110#3 ++ cc.code ++ 0b100#3, target.extractLsb' 0 8, target.extractLsb' 8 8]) ∨
      (∃ n, i.form = .rst n ∧ target = BitVec.ofNat 16 (8 * n.toNat) ∧ ret = pcn s 1 ∧ cycles = 16 ∧
        bytes = [0b11#2 ++ n ++ 0b111#3]) →
      encode i = bytes ∧
      Runs i s fun t =>
        t.regs.sp = s.regs.sp - 2 ∧ RegsKept s t [] ∧ t.regs.f = s.regs.f ∧ EndsAt s t target cycles ∧
        StoredTwice s t (s.regs.sp - 1) (ret.extractLsb' 8 8) (s.regs.sp - 2) (ret.extractLsb' 0 8)) ∧
    (∀ cc target, i.form = .callCc cc target → s.holds cc = false →
      Runs i s fun t =>
        t.regs.sp = s.regs.sp ∧ RegsKept s t [] ∧ t.regs.f = s.regs.f ∧ EndsAt s t (pcn s 3) 12 ∧ OutsideKept s t [])

/-- R298 to R300. Constructors: ret, retNz, retZ, retNc, retC, reti. -/
def Obligations.ReturnsPopPc : Prop :=
  ∀ (i : Instr) (s : State),
    (∀ cycles bytes, (i.form = .ret ∧ cycles = 16 ∧ bytes = [0xC9]) ∨
      (∃ cc, i.form = .retCc cc ∧ s.holds cc = true ∧ cycles = 20 ∧ bytes = [0b110#3 ++ cc.code ++ 0b000#3]) →
      encode i = bytes ∧
      Runs i s fun t =>
        t.regs.sp = s.regs.sp + 2 ∧ RegsKept s t [] ∧ t.regs.f = s.regs.f ∧ EndsAt s t (stackTop s) cycles ∧
        OutsideKept s t [s.regs.sp, s.regs.sp + 1]) ∧
    (∀ cc, i.form = .retCc cc → s.holds cc = false →
      Runs i s fun t =>
        t.regs.sp = s.regs.sp ∧ RegsKept s t [] ∧ t.regs.f = s.regs.f ∧ EndsAt s t (pcn s 1) 8 ∧ OutsideKept s t []) ∧
    (i.form = .reti → encode i = [0xD9] ∧
      Runs i s fun t =>
        t.regs.sp = s.regs.sp + 2 ∧ RegsKept s t [] ∧ t.regs.f = s.regs.f ∧ t.regs.pc = stackTop s ∧
        t.clock = s.clock + 16 ∧ t.ctl = { s.ctl with haltBug := false, ime := true, imeSched := false } ∧
        OutsideKept s t [s.regs.sp, s.regs.sp + 1])

/-- R310, R313, R314 (what EI itself does). Constructors: nop, di, ei. -/
def Obligations.NopDiEi : Prop :=
  ∀ (i : Instr) (s : State) (ctl : Control) (bytes : List Byte),
    (i.form = .nop ∧ ctl = { s.ctl with haltBug := false } ∧ bytes = [0x00]) ∨
    (i.form = .di ∧ ctl = { s.ctl with haltBug := false, ime := false, imeSched := false } ∧ bytes = [0xF3]) ∨
    (i.form = .ei ∧ ctl = { s.ctl with haltBug := false, imeSched := true } ∧ bytes = [0xFB]) →
    encode i = bytes ∧
    Runs i s fun t =>
      t.regs = { s.regs with pc := pcn s 1 } ∧ t.clock = s.clock + 4 ∧ t.ctl = ctl ∧ OutsideKept s t []

/-- R311, R312: their own step; the wake, the second reading and the end of a stop are other statements. Constructors:
halt, stop. -/
def Obligations.HaltAndStop : Prop :=
  ∀ (i : Instr) (s : State),
    (i.form = .halt →
      encode i = [0x76] ∧
      Runs i s fun t =>
        t.regs = { s.regs with pc := pcn s 1 } ∧ t.clock = s.clock + 4 ∧ OutsideKept s t [] ∧
        t.ctl = (if s.ctl.ime = false ∧ busRead s 0xFFFF &&& busRead s 0xFF0F &&& 0x1F ≠ 0
          then { s.ctl with haltBug := s.board.params.haltBug } else { s.ctl with haltBug := false, halted := true })) ∧
    (∀ pad, i.form = .stop pad →
      encode i = [0x10, pad] ∧
      Runs i s fun t =>
        t.regs = { s.regs with pc := pcn s 2 } ∧ t.clock = s.clock + 4 ∧
        t.ctl = { s.ctl with haltBug := false, stopped := true } ∧
        t.hostMoves = s.hostMoves ∧
        t.board = { s.board with mem := t.board.mem, timer := { s.board.timer with divAcc := 0 } } ∧
        busRead t 0xFF04 = 0 ∧ ∀ a, a ≠ 0xFF04 → busRead t a = busRead s a)

/-- R63 to R70, R72. The crash-region clause (the byte is the next draw) and the draw counter in the last clause are no
rule of the spec: they are how the model says "unspecified" (DESIGN CHOICE, log entry 1). -/
def Obligations.ReadFollowsTheRegionMap : Prop :=
  ∀ (s : Board) (a : Word),
    (s.bootVisible = true → a ≤ 0x00FF → memRead s a = bootByte s a) ∧
    (¬ (s.bootVisible = true ∧ a ≤ 0x00FF) →
      (a ≤ 0x3FFF → memRead s a = s.cart.romByte a.toNat) ∧
      (0x4000 ≤ a → a ≤ 0x7FFF → memRead s a = s.cart.romByte (s.cart.romBank * 0x4000 + (a.toNat - 0x4000)))) ∧
    (0x8000 ≤ a → a ≤ 0x9FFF → memRead s a = s.byteAt a.toNat) ∧
    (0xA000 ≤ a → a ≤ 0xBFFF → memRead s a =
      if s.cart.kind = .mbc1 ∧ 0 < s.cart.ramBanks ∧ s.cart.ramEnable = true
      then s.cart.ramByte (s.cart.ramBank * 0x2000 + (a.toNat - 0xA000)) else 0xFF) ∧
    (0xC000 ≤ a → a ≤ 0xDFFF → memRead s a = s.byteAt a.toNat) ∧
    (0xE000 ≤ a → a ≤ 0xFDFF → memRead s a = memRead s (a - 0x2000)) ∧
    (0xFE00 ≤ a → a ≤ 0xFE9F → memRead s a = s.byteAt a.toNat) ∧
    (0xFEA0 ≤ a → a ≤ 0xFEFF → memRead s a = Config.draw s.draws) ∧
    (0xFF00 ≤ a → memRead s a = s.byteAt a.toNat) ∧
    afterMemRead s a = { s with draws := if 0xFEA0 ≤ a ∧ a ≤ 0xFEFF then s.draws + 1 else s.draws }

/-- R80 (and R64, R66 to R69, R72, R96). -/
def Obligations.WriteFollowsTheRegionMap : Prop :=
  ∀ (s : Board) (a : Word) (v : Byte),
    (s.bootVisible = true → a ≤ 0x00FF → memWrite s a v = s) ∧
    (0xFEA0 ≤ a → a ≤ 0xFEFF → memWrite s a v = s) ∧
    (¬ (s.bootVisible = true ∧ a ≤ 0x00FF) → a ≤ 0x7FFF →
      memWrite s a v = { s with cart := s.cart.bankWrite a v } ∧ (memWrite s a v).cart.rom = s.cart.rom) ∧
    (0xA000 ≤ a → a ≤ 0xBFFF →
      if s.cart.kind = .mbc1 ∧ 0 < s.cart.ramBanks ∧ s.cart.ramEnable = true then
        memRead (memWrite s a v) a = v ∧
        memWrite s a v = { s with cart := { s.cart with ram := s.cart.ram.put (s.cart.ramOffset a) v } } ∧
        ∀ k, (memWrite s a v).cart.ramByte k =
          if k = s.cart.ramBank * 0x2000 + (a.toNat - 0xA000) then v else s.cart.ramByte k
      else memWrite s a v = s) ∧
    (0x8000 ≤ a ∧ a ≤ 0x9FFF ∨ 0xC000 ≤ a ∧ a ≤ 0xDFFF ∨ 0xFE00 ≤ a ∧ a ≤ 0xFE9F ∨ 0xFF80 ≤ a →
      memWrite s a v = { s with mem := s.mem.set s.params.entry a.toNat v } ∧ memRead (memWrite s a v) a = v) ∧
    (0xE000 ≤ a → a ≤ 0xFDFF →
      memWrite s a v = memWrite s (a - 0x2000) v ∧ memRead (memWrite s a v) a = v ∧
      memRead (memWrite s a v) (a - 0x2000) = v) ∧
    (0xFF00 ≤ a → a ≤ 0xFF7F → memWrite s a v = ioWrite a v s)

/-- R96 to R102. -/
def Obligations.BankControllerCommands : Prop :=
  (∀ (c : Cartridge) (a : Word) (v : Byte), c.kind = .none →
    c.bankWrite a v = c ∧ c.romBank = 1 ∧ c.ramUsable = false) ∧
  (∀ (c : Cartridge) (a : Word) (v : Byte), c.kind = .mbc1 →
    (a ≤ 0x1FFF → c.bankWrite a v = { c with ramEnable := decide (v.toNat % 16 = 0x0A) }) ∧
    (0x2000 ≤ a → a ≤ 0x3FFF →
      c.bankWrite a v = { c with bankLo := if v.toNat % 32 = 0 then 1 else BitVec.ofNat 5 v.toNat }) ∧
    (0x4000 ≤ a → a ≤ 0x5FFF → c.bankWrite a v = { c with bankHi := BitVec.ofNat 2 v.toNat }) ∧
    (0x6000 ≤ a → a ≤ 0x7FFF → c.bankWrite a v = { c with bankMode := decide (v.toNat % 2 = 1) }) ∧
    c.romBank = (32 * c.bankHi.toNat + c.bankLo.toNat) % c.nbanks ∧
    (0 < c.ramBanks → c.ramBank = if c.bankMode = true then c.bankHi.toNat % c.ramBanks else 0))

/-- R111 to R114, R116, R117, R119, R121, R355. -/
def Obligations.WritesToTheControlRegisters : Prop :=
  ∀ (s : Board) (v : Byte),
    (memWrite s 0xFF00 v = rawWrite s 0xFF00 (rawRead (memWrite s 0xFF00 v) 0xFF00) ∧
      ∀ n < 8, (rawRead (memWrite s 0xFF00 v) 0xFF00).getLsbD n =
        if 4 ≤ n then v.getLsbD n
        else !((!v.getLsbD 4 && s.buttons.getLsbD n) || (!v.getLsbD 5 && s.buttons.getLsbD (n + 4)))) ∧
    memWrite s 0xFF04 v = { rawWrite s 0xFF04 0 with timer := { s.timer with divAcc := 0 } } ∧
    memWrite s 0xFF07 v =
      (if v.toNat % 8 = (rawRead s 0xFF07).toNat % 8 then rawWrite s 0xFF07 v
        else { rawWrite s 0xFF07 v with timer := { s.timer with timaAcc := 0 } }) ∧
    memWrite s 0xFF41 v = rawWrite s 0xFF41 ((v &&& 0xF8) ||| (rawRead s 0xFF41 &&& 0x07)) ∧
    memWrite s 0xFF44 v = s ∧
    memWrite s 0xFF50 v = { rawWrite s 0xFF50 v with bootVisible := false } ∧
    memWrite s 0xFF45 v =
      (if (rawRead s 0xFF40).getLsbD 7 = true then lycCompare (rawWrite s 0xFF45 v) else rawWrite s 0xFF45 v) ∧
    (∀ a ∈ ([0xFF01, 0xFF02, 0xFF05, 0xFF06, 0xFF0F, 0xFF42, 0xFF43, 0xFF47, 0xFF48, 0xFF49, 0xFF4A, 0xFF4B] : List Word),
      memWrite s a v = rawWrite s a v)

/-- R115, R376, R377 (and R116, R375 for LYC). -/
def Obligations.LcdSwitchAndLineCompare : Prop :=
  ∀ (s : Board) (v : Byte),
    let t := memWrite s 0xFF40 v
    let off := (rawRead s 0xFF40).getLsbD 7 = true ∧ v.getLsbD 7 = false
    let on := (rawRead s 0xFF40).getLsbD 7 = false ∧ v.getLsbD 7 = true
    rawRead t 0xFF40 = v ∧
    (¬ off → ¬ on → t = rawWrite s 0xFF40 v) ∧
    (off → rawRead t 0xFF44 = 0 ∧ rawRead t 0xFF41 = rawRead s 0xFF41 &&& 0xFC ∧ rawRead t 0xFF0F = rawRead s 0xFF0F ∧
      t.ppu = { s.ppu with mode := .hblank, acc := 0, offAcc := 0, winLine := 0, spriteList := [],
                           framebuffer := List.replicate 144 (List.replicate 160 0) }) ∧
    (on → rawRead t 0xFF44 = 0 ∧ t.ppu = { s.ppu with mode := .oamSearch, acc := 0, winLine := 0 } ∧
      rawRead t 0xFF41 = (rawRead s 0xFF41 &&& 0xF8) ||| (if rawRead s 0xFF45 = 0 then 0x06 else 0x02) ∧
      rawRead t 0xFF0F = (if rawRead s 0xFF45 = 0 ∧ (rawRead s 0xFF41).getLsbD 6 = true
        then rawRead s 0xFF0F ||| 0x02 else rawRead s 0xFF0F)) ∧
    (let u := memWrite s 0xFF45 v
     rawRead u 0xFF45 = v ∧
     ((rawRead s 0xFF40).getLsbD 7 = true →
       (rawRead u 0xFF41).getLsbD 2 = decide (rawRead s 0xFF44 = v) ∧
       rawRead u 0xFF0F = (if rawRead s 0xFF44 = v ∧ (rawRead s 0xFF41).getLsbD 6 = true
         then rawRead s 0xFF0F ||| 0x02 else rawRead s 0xFF0F)) ∧
     ((rawRead s 0xFF40).getLsbD 7 = false → u = rawWrite s 0xFF45 v))

/-- R118 (the unspecified bytes are draws, log entry 1). -/
def Obligations.DmaCopiesAPageIntoOam : Prop :=
  ∀ (s : Board) (v : Byte),
    let t := memWrite s 0xFF46 v
    t = { s with mem := t.mem, draws := t.draws } ∧ rawRead t 0xFF46 = v ∧
    (∀ a : Word, a ≠ 0xFF46 → ¬ (0xFE00 ≤ a ∧ a ≤ 0xFE9F) → rawRead t a = rawRead s a) ∧
    (v.toNat < 0xE0 → t.draws = s.draws ∧
      ∀ i < 160, rawRead t (BitVec.ofNat 16 (0xFE00 + i)) = memRead s (BitVec.ofNat 16 (256 * v.toNat + i)))

/-- R406 (the power branch), R407. R406 and R407 write their range as 0xFF10..0xFF25; that 0xFF15 and 0xFF1F in it are
plain storage, neither gated nor cleared, is R43 and R402 (DEDUCED, log entry 14). -/
def Obligations.SoundPowerGate : Prop :=
  ∀ (s : Board) (v : Byte),
    let register (a : Word) : Prop := 0xFF10 ≤ a ∧ a ≤ 0xFF25 ∧ a ≠ 0xFF15 ∧ a ≠ 0xFF1F
    let storage (a : Word) : Prop := 0xFF30 ≤ a ∧ a ≤ 0xFF3F ∨ a = 0xFF15 ∨ a = 0xFF1F
    (∀ a : Word, register a → (rawRead s 0xFF26).getLsbD 7 = false → memWrite s a v = s) ∧
    (∀ a : Word, storage a → memWrite s a v = rawWrite s a v) ∧
    (let t := memWrite s 0xFF26 v
     (∀ a : Word, storage a → rawRead t a = rawRead s a) ∧
     ((rawRead s 0xFF26).getLsbD 7 = true → v.getLsbD 7 = false →
       rawRead t 0xFF26 = v &&& 0xF0 ∧
       (∀ a : Word, register a → rawRead t a = 0) ∧
       (∀ ch : Chan, (t.apu.channel ch).en = false) ∧
       t.apu.env1.vol = 0 ∧ t.apu.env2.vol = 0 ∧ t.apu.env4.vol = 0 ∧
       t.apu.env1.on = false ∧ t.apu.env2.on = false ∧ t.apu.env4.on = false ∧ t.apu.sweep.on = false ∧
       t.apu.duty1 = 0 ∧ t.apu.duty2 = 0 ∧ t.apu.pos3 = 0) ∧
     ((rawRead s 0xFF26).getLsbD 7 = false → v.getLsbD 7 = true →
       rawRead t 0xFF26 = (v &&& 0xF0) ||| (rawRead s 0xFF26 &&& 0x0F) ∧
       t.apu = { s.apu with fsStep := 0, fsAcc := 0 }))

/-- R350 to R352, R354. -/
def Obligations.TimerCountsCycles : Prop :=
  ∀ (s : Board) (n : Nat),
    let t := timerStep n s
    let count := 256 * (rawRead s 0xFF04).toNat + s.timer.divAcc + n
    let p := if (rawRead s 0xFF07).toNat % 4 = 0 then 1024 else if (rawRead s 0xFF07).toNat % 4 = 1 then 16
      else if (rawRead s 0xFF07).toNat % 4 = 2 then 64 else 256
    let k := (s.timer.timaAcc + n) / p
    let tima := (rawRead s 0xFF05).toNat
    let tma := (rawRead s 0xFF06).toNat
    (rawRead t 0xFF04).toNat = count / 256 % 256 ∧ t.timer.divAcc = count % 256 ∧
    ((rawRead s 0xFF07).getLsbD 2 = false →
      rawRead t 0xFF05 = rawRead s 0xFF05 ∧ t.timer.timaAcc = s.timer.timaAcc ∧ rawRead t 0xFF0F = rawRead s 0xFF0F) ∧
    ((rawRead s 0xFF07).getLsbD 2 = true →
      t.timer.timaAcc = (s.timer.timaAcc + n) % p ∧
      (tima + k < 256 → (rawRead t 0xFF05).toNat = tima + k ∧ rawRead t 0xFF0F = rawRead s 0xFF0F) ∧
      (256 ≤ tima + k → tima + k < 512 - tma →
        (rawRead t 0xFF05).toNat = tma + (tima + k - 256) ∧ rawRead t 0xFF0F = rawRead s 0xFF0F ||| 0x04))

/-- R360, R370, R372; the requests: R373 (mode entries), R374 (V-blank), R375 (LY = LYC). -/
def Obligations.PpuModesFollowOneAnother : Prop :=
  ∀ (s : Board) (n : Nat), (rawRead s 0xFF40).getLsbD 7 = true → StatModeOk s →
    let t := ppuStep n s
    let len := match s.ppu.mode with | .oamSearch => 80 | .transfer => 172 | .hblank => 204 | .vblank => 456
    let ly := rawRead s 0xFF44
    let stat := rawRead s 0xFF41
    let requested := rawRead s 0xFF0F
    let bit1 (b : Bool) : Byte := if b then 0x02 else 0x00
    let coincides (line : Byte) : Bool := stat.getLsbD 6 && decide (line = rawRead s 0xFF45)
    (s.ppu.acc + n < len → t = { s with ppu := { s.ppu with acc := s.ppu.acc + n } }) ∧
    (len ≤ s.ppu.acc + n → s.ppu.acc + n < len + 80 →
      t.ppu.acc = s.ppu.acc + n - len ∧ rawRead t 0xFF41 &&& 0x03 = t.ppu.mode.code ∧
      rawRead t 0xFF41 &&& 0xF8 = stat &&& 0xF8 ∧
      match s.ppu.mode with
      | .oamSearch =>
        t.ppu.mode = .transfer ∧ rawRead t 0xFF44 = ly ∧ t.ppu.frames = s.ppu.frames ∧ rawRead t 0xFF0F = requested
      | .transfer =>
        t.ppu.mode = .hblank ∧ rawRead t 0xFF44 = ly ∧ t.ppu.frames = s.ppu.frames ∧
        rawRead t 0xFF0F = requested ||| bit1 (stat.getLsbD 3)
      | .hblank =>
        rawRead t 0xFF44 = ly + 1 ∧
        (if ly = 143 then
          t.ppu.mode = .vblank ∧ t.ppu.frames = s.ppu.frames + 1 ∧
          rawRead t 0xFF0F = requested ||| bit1 (coincides 144 || stat.getLsbD 4) ||| 0x01
        else
          t.ppu.mode = .oamSearch ∧ t.ppu.frames = s.ppu.frames ∧
          rawRead t 0xFF0F = requested ||| bit1 (coincides (ly + 1) || stat.getLsbD 5))
      | .vblank =>
        t.ppu.frames = s.ppu.frames ∧
        (if ly = 153 ∨ ly = 0 then
          rawRead t 0xFF44 = 0 ∧ t.ppu.mode = .oamSearch ∧ t.ppu.winLine = 0 ∧
          rawRead t 0xFF0F = requested ||| bit1 (coincides 0 || stat.getLsbD 5)
        else
          rawRead t 0xFF44 = ly + 1 ∧ t.ppu.mode = .vblank ∧
          rawRead t 0xFF0F = requested ||| bit1 (coincides (ly + 1))))

/-- R380. -/
def Obligations.OamSearchTakesTheFirstTen : Prop :=
  ∀ (s : Board) (ly : Nat),
    let covers (k : Nat) : Prop :=
      (s.byteAt (0xFE00 + 4 * k)).toNat ≤ ly + 16 ∧
      ly + 16 < (s.byteAt (0xFE00 + 4 * k)).toNat + (if (rawRead s 0xFF40).getLsbD 2 = true then 16 else 8)
    let list := oamSearch s ly
    list.Pairwise (· < ·) ∧ list.length ≤ 10 ∧ (∀ k ∈ list, k < 40 ∧ covers k) ∧
    (∀ k < 40, covers k → k ∉ list → list.length = 10 ∧ ∀ j ∈ list, j < k)

/-- R381 to R386, with R361, R365, R366 and R367. A sprite entry rewritten after the search so that it no longer covers
the line has no clause here (log entry 8). -/
def Obligations.SpritePriority : Prop :=
  ∀ (s : Board) (ly x : Nat),
    let reg (a : Word) : Nat := (rawRead s a).toNat
    let lcdc (n : Nat) : Bool := (rawRead s 0xFF40).getLsbD n
    let indexAt (row bit : Nat) : BitVec 2 :=
      BitVec.ofNat 2 (2 * ((s.byteAt (row + 1)).toNat / 2 ^ bit % 2) + (s.byteAt row).toNat / 2 ^ bit % 2)
    let mapIndex (map px py : Nat) : BitVec 2 :=
      let cell := (s.byteAt (map + 32 * (py / 8) + px / 8)).toNat
      let tile := if lcdc 4 = true then 0x8000 + 16 * cell
        else if cell < 128 then 0x9000 + 16 * cell else 0x8000 + 16 * cell
      indexAt (tile + 2 * (py % 8)) (7 - px % 8)
    let shade (palette : Word) (i : BitVec 2) : Shade := BitVec.ofNat 2 (reg palette / 4 ^ i.toNat)
    let windowHere : Prop := lcdc 5 = true ∧ lcdc 0 = true ∧ reg 0xFF4A ≤ ly ∧ reg 0xFF4B ≤ 166
    let back := backPixel s ly x
    let backShade : Shade := if lcdc 0 = true then shade 0xFF47 back else 0
    backgroundPixel s ly x =
      mapIndex (if lcdc 3 = true then 0x9C00 else 0x9800) ((x + reg 0xFF43) % 256) ((ly + reg 0xFF42) % 256) ∧
    windowPixel s x = mapIndex (if lcdc 6 = true then 0x9C00 else 0x9800) (x + 7 - reg 0xFF4B) s.ppu.winLine ∧
    (lcdc 0 = false → back = 0) ∧
    (windowHere → reg 0xFF4B ≤ x + 7 → back = windowPixel s x) ∧
    (lcdc 0 = true → ¬ (windowHere ∧ reg 0xFF4B ≤ x + 7) → back = backgroundPixel s ly x) ∧
    (∀ k : Nat,
      let oam (i : Nat) : Nat := (s.byteAt (0xFE00 + 4 * k + i)).toNat
      let attr := s.byteAt (0xFE00 + 4 * k + 3)
      let h := if lcdc 2 = true then 16 else 8
      let c := if attr.getLsbD 5 = true then oam 1 - 1 - x else x + 8 - oam 1
      let r := if attr.getLsbD 6 = true then oam 0 + h - 17 - ly else ly + 16 - oam 0
      let tile := if h = 8 then oam 2 else oam 2 - oam 2 % 2
      let i := indexAt (0x8000 + 16 * tile + 2 * r) (7 - c)
      (¬ (x < oam 1 ∧ oam 1 ≤ x + 8) → spritePixel s ly x k = none) ∧
      (x < oam 1 → oam 1 ≤ x + 8 → oam 0 ≤ ly + 16 → ly + 16 < oam 0 + h →
        spritePixel s ly x k = if i = 0 then none else some ⟨s.byteAt (0xFE00 + 4 * k + 1), i, attr⟩)) ∧
    (let ps := s.ppu.spriteList.filterMap (spritePixel s ly x)
     (lcdc 1 = false ∨ ps = [] → winningSprite s ly x = none) ∧
     (lcdc 1 = true → ps ≠ [] →
      ∃ (n : Nat) (p : SpritePixel), ps[n]? = some p ∧ winningSprite s ly x = some p ∧
        (∀ q ∈ ps, p.x ≤ q.x) ∧ ∀ m q, m < n → ps[m]? = some q → p.x < q.x)) ∧
    (winningSprite s ly x = none → pixelShade s ly x = backShade) ∧
    (∀ p, winningSprite s ly x = some p → pixelShade s ly x =
      if p.attr.getLsbD 7 = true ∧ back ≠ 0 then backShade
      else shade (if p.attr.getLsbD 4 = true then 0xFF49 else 0xFF48) p.index) ∧
    (let t := renderLine s ly
     (windowHere → t.ppu.winLine = s.ppu.winLine + 1) ∧ (¬ windowHere → t.ppu.winLine = s.ppu.winLine) ∧
     t = { s with ppu := { s.ppu with framebuffer := t.ppu.framebuffer, winLine := t.ppu.winLine } } ∧
     t.ppu.framebuffer.length = s.ppu.framebuffer.length ∧
     (∀ j, j ≠ ly → t.ppu.framebuffer[j]? = s.ppu.framebuffer[j]?) ∧
     (ly < s.ppu.framebuffer.length → ∃ row, t.ppu.framebuffer[ly]? = some row ∧ row.length = 160 ∧
       (x < 160 → row[x]? = some (pixelShade s ly x))))

/-- R406 and R408 (trigger and DAC), R409, R411 to R416, R420 and R421, R403 (the wave samples). An envelope timer that
is already 0 counts as run out: DEDUCED, log entry 13. -/
def Obligations.TriggerAndLengthCounter : Prop :=
  let period (s : Board) (ch : Chan) : Nat :=
    let n := (rawRead s ch.nrx3).toNat
    let f := 256 * ((rawRead s ch.nrx4).toNat % 8) + n
    match ch with
    | .one | .two => 4 * (2048 - f)
    | .three => 2 * (2048 - f)
    | .four => (if n % 8 = 0 then 8 else 16 * (n % 8)) * 2 ^ (n / 16)
  let swept (nr10 : Byte) (f : Nat) : Nat :=
    if nr10.getLsbD 3 = true then f - f / 2 ^ (nr10.toNat % 8) else f + f / 2 ^ (nr10.toNat % 8)
  let reload (nr10 : Byte) : Nat := if nr10.toNat / 16 % 8 = 0 then 8 else nr10.toNat / 16 % 8
  -- the trigger
  (∀ (s : Board) (ch : Chan) (v : Byte), (rawRead s 0xFF26).getLsbD 7 = true → v.getLsbD 7 = true →
    let t := memWrite s ch.nrx4 v
    let nr10 := rawRead s 0xFF10
    let nrx2 := rawRead s ch.nrx2
    let f := 256 * (v.toNat % 8) + (rawRead s ch.nrx3).toNat
    let dac := if ch = .three then (rawRead s 0xFF1A).getLsbD 7 else decide (8 ≤ nrx2.toNat)
    let tooHigh := decide (ch = .one ∧ nr10.toNat % 8 ≠ 0 ∧ 2047 < swept nr10 f)
    let len := (s.apu.channel ch).len
    t.apu.channel ch = ⟨dac && !tooHigh, period t ch, if len = 0 then (if ch = .three then 256 else 64) else len⟩ ∧
    rawRead t ch.nrx4 = v ∧ (rawRead t 0xFF26).getLsbD ch.bit = (dac && !tooHigh) ∧
    (∀ a, a ≠ ch.nrx4 → a ≠ 0xFF26 → rawRead t a = rawRead s a) ∧
    (∀ c, c ≠ ch → t.apu.channel c = s.apu.channel c ∧ t.apu.envelope c = s.apu.envelope c) ∧
    (ch ≠ .three → t.apu.envelope ch = some ⟨BitVec.ofNat 4 (nrx2.toNat / 16), nrx2.toNat % 8, true⟩) ∧
    t.apu.sweep =
      (if ch = .one then ⟨BitVec.ofNat 11 f, reload nr10, decide (nr10 &&& 0x77 ≠ 0)⟩ else s.apu.sweep) ∧
    t.apu.duty1 = s.apu.duty1 ∧ t.apu.duty2 = s.apu.duty2 ∧
    t.apu.pos3 = (if ch = .three then 0 else s.apu.pos3) ∧ t.apu.lfsr = (if ch = .four then 0x7FFF else s.apu.lfsr) ∧
    t.apu.fsStep = s.apu.fsStep ∧ t.apu.fsAcc = s.apu.fsAcc) ∧
  -- one length tick
  (∀ (s : Board) (ch : Chan),
    let len := (s.apu.channel ch).len
    let t := lengthTick ch s
    ((rawRead s ch.nrx4).getLsbD 6 = true → 0 < len →
      (t.apu.channel ch).len = len - 1 ∧ (t.apu.channel ch).en = (if len = 1 then false else (s.apu.channel ch).en)) ∧
    (¬ ((rawRead s ch.nrx4).getLsbD 6 = true ∧ 0 < len) → t = s)) ∧
  -- one tick of the frame sequencer
  (∀ s : Board,
    let t := frameSequencerTick s
    let k := s.apu.fsStep.toNat
    let nr10 := rawRead s 0xFF10
    let w := s.apu.sweep
    let sweeps : Prop := (k = 2 ∨ k = 6) ∧ w.timer ≤ 1 ∧ w.on = true ∧ nr10.toNat / 16 % 8 ≠ 0
    let new := swept nr10 w.shadow.toNat
    let stores : Prop := sweeps ∧ new ≤ 2047 ∧ nr10.toNat % 8 ≠ 0
    let tooHigh : Prop := sweeps ∧ 2047 < new ∨ stores ∧ 2047 < swept nr10 new
    t.apu.fsStep.toNat = (k + 1) % 8 ∧ t.apu.fsAcc = s.apu.fsAcc ∧
    (∀ ch : Chan,
      let c := s.apu.channel ch
      let counts : Prop := k % 2 = 0 ∧ (rawRead s ch.nrx4).getLsbD 6 = true
      (t.apu.channel ch).timer = c.timer ∧
      (counts → (t.apu.channel ch).len = c.len - 1) ∧ (¬ counts → (t.apu.channel ch).len = c.len) ∧
      (counts ∧ c.len = 1 ∨ ch = .one ∧ tooHigh → (t.apu.channel ch).en = false) ∧
      (¬ (counts ∧ c.len = 1 ∨ ch = .one ∧ tooHigh) → (t.apu.channel ch).en = c.en)) ∧
    (k ≠ 7 → ∀ ch : Chan, t.apu.envelope ch = s.apu.envelope ch) ∧
    (k = 7 → ∀ (ch : Chan) (v : Envelope), s.apu.envelope ch = some v →
      let nrx2 := rawRead s ch.nrx2
      let p := nrx2.toNat % 8
      let up := nrx2.getLsbD 3
      ∃ u : Envelope, t.apu.envelope ch = some u ∧
        (v.on = false ∨ p = 0 → u = v) ∧
        (v.on = true → p ≠ 0 → 1 < v.timer → u = { v with timer := v.timer - 1 }) ∧
        (v.on = true → p ≠ 0 → v.timer ≤ 1 → u.timer = p ∧
          u.vol.toNat = (if up = true then min 15 (v.vol.toNat + 1) else v.vol.toNat - 1) ∧
          u.on = decide (v.vol.toNat ≠ if up = true then 15 else 0))) ∧
    t.apu.sweep.on = w.on ∧
    t.apu.sweep.timer =
      (if k = 2 ∨ k = 6 then (if w.timer ≤ 1 then reload nr10 else w.timer - 1) else w.timer) ∧
    (stores → t.apu.sweep.shadow.toNat = new ∧ (rawRead t 0xFF13).toNat = new % 256 ∧
      (rawRead t 0xFF14).toNat = 8 * ((rawRead s 0xFF14).toNat / 8) + new / 256) ∧
    (¬ stores → t.apu.sweep.shadow = w.shadow ∧ rawRead t 0xFF13 = rawRead s 0xFF13 ∧
      rawRead t 0xFF14 = rawRead s 0xFF14) ∧
    t.apu.duty1 = s.apu.duty1 ∧ t.apu.duty2 = s.apu.duty2 ∧ t.apu.pos3 = s.apu.pos3 ∧ t.apu.lfsr = s.apu.lfsr ∧
    (∀ a, a ≠ 0xFF13 → a ≠ 0xFF14 → a ≠ 0xFF26 → rawRead t a = rawRead s a)) ∧
  -- one cycle
  (∀ s : Board,
    let t := apuStep 1 s
    let u := if (rawRead s 0xFF26).getLsbD 7 = true ∧ s.apu.fsAcc + 1 = 8192 then frameSequencerTick s else s
    let full : Prop := s.apu.dsAcc + 1 = s.params.apuDownsample
    (∀ a, rawRead t a = rawRead u a) ∧
    (full → t.apu.dsAcc = 0 ∧ t.apu.samples = currentSample t :: s.apu.samples) ∧
    (¬ full → t.apu.dsAcc = s.apu.dsAcc + 1 ∧ t.apu.samples = s.apu.samples) ∧
    ((rawRead s 0xFF26).getLsbD 7 = false →
      t.apu = { s.apu with dsAcc := t.apu.dsAcc, samples := t.apu.samples }) ∧
    ((rawRead s 0xFF26).getLsbD 7 = true →
      let runsOut (ch : Chan) : Prop := (u.apu.channel ch).timer ≤ 1
      let x := u.apu.lfsr.getLsbD 0 ^^ u.apu.lfsr.getLsbD 1
      t.apu.fsAcc = (if s.apu.fsAcc + 1 = 8192 then 0 else s.apu.fsAcc + 1) ∧ t.apu.fsStep = u.apu.fsStep ∧
      t.apu.sweep = u.apu.sweep ∧
      (∀ ch : Chan, t.apu.envelope ch = u.apu.envelope ch ∧
        (runsOut ch → t.apu.channel ch = { u.apu.channel ch with timer := period u ch }) ∧
        (¬ runsOut ch → t.apu.channel ch = { u.apu.channel ch with timer := (u.apu.channel ch).timer - 1 })) ∧
      (runsOut .one → t.apu.duty1.toNat = (u.apu.duty1.toNat + 1) % 8) ∧ (¬ runsOut .one → t.apu.duty1 = u.apu.duty1) ∧
      (runsOut .two → t.apu.duty2.toNat = (u.apu.duty2.toNat + 1) % 8) ∧ (¬ runsOut .two → t.apu.duty2 = u.apu.duty2) ∧
      (runsOut .three → t.apu.pos3.toNat = (u.apu.pos3.toNat + 1) % 32) ∧ (¬ runsOut .three → t.apu.pos3 = u.apu.pos3) ∧
      (runsOut .four → ∀ i < 15, t.apu.lfsr.getLsbD i =
        if i = 14 ∨ i = 6 ∧ (rawRead u 0xFF22).getLsbD 3 = true then x else u.apu.lfsr.getLsbD (i + 1)) ∧
      (¬ runsOut .four → t.apu.lfsr = u.apu.lfsr))) ∧
  -- the digital output
  (∀ (s : Board) (ch : Chan),
    let high (duty pos : Nat) : Prop :=
      duty = 0 ∧ pos = 7 ∨ duty = 1 ∧ (pos = 0 ∨ pos = 7) ∨ duty = 2 ∧ (pos = 0 ∨ 5 ≤ pos) ∨
        duty = 3 ∧ 1 ≤ pos ∧ pos ≤ 6
    let level := (rawRead s 0xFF1C).toNat / 32 % 4
    let byte := (s.byteAt (0xFF30 + s.apu.pos3.toNat / 2)).toNat
    let d := digitalOutput s ch
    ((s.apu.channel ch).en = false → d = 0) ∧
    ((s.apu.channel ch).en = true →
      match ch with
      | .one => (high ((rawRead s 0xFF11).toNat / 64) s.apu.duty1.toNat → d = s.apu.env1.vol.toNat) ∧
        (¬ high ((rawRead s 0xFF11).toNat / 64) s.apu.duty1.toNat → d = 0)
      | .two => (high ((rawRead s 0xFF16).toNat / 64) s.apu.duty2.toNat → d = s.apu.env2.vol.toNat) ∧
        (¬ high ((rawRead s 0xFF16).toNat / 64) s.apu.duty2.toNat → d = 0)
      | .three => d = (if s.apu.pos3.toNat % 2 = 0 then byte / 16 else byte % 16) /
          (if level = 0 then 16 else if level = 1 then 1 else if level = 2 then 2 else 4)
      | .four => d = if s.apu.lfsr.getLsbD 0 = true then 0 else s.apu.env4.vol.toNat))

/-- R408, R430. That a sample is kept as a whole number of 480ths, so that -480 and 480 mean -1 and +1, is the model's
(DESIGN CHOICE, log entry 16). -/
def Obligations.SamplesStayInRange : Prop :=
  ∀ s : Board,
    -480 ≤ (currentSample s).left ∧ (currentSample s).left ≤ 480 ∧
    -480 ≤ (currentSample s).right ∧ (currentSample s).right ≤ 480 ∧
    ((rawRead s 0xFF26).getLsbD 7 = false → currentSample s = ⟨0, 0⟩)

/-- R345, R346. -/
def Obligations.ButtonsDriveTheJoypadLines : Prop :=
  ∀ (s : State) (b : Byte),
    let t := setButtons b s
    let old := rawRead s.board 0xFF00
    let fell := ∃ n < 4, old.getLsbD n = true ∧ (rawRead t.board 0xFF00).getLsbD n = false
    t.regs = s.regs ∧ t.clock = s.clock ∧ t.hostMoves = s.hostMoves ∧
    t.board = { s.board with buttons := b, mem := t.board.mem } ∧
    (∀ n < 8, (rawRead t.board 0xFF00).getLsbD n =
      if 4 ≤ n then old.getLsbD n
      else !((!old.getLsbD 4 && b.getLsbD n) || (!old.getLsbD 5 && b.getLsbD (n + 4)))) ∧
    (fell → rawRead t.board 0xFF0F = rawRead s.board 0xFF0F ||| 0x10 ∧ t.ctl = { s.ctl with stopped := false }) ∧
    (¬ fell → rawRead t.board 0xFF0F = rawRead s.board 0xFF0F ∧ t.ctl = s.ctl) ∧
    (∀ a : Word, a ≠ 0xFF00 → a ≠ 0xFF0F → rawRead t.board a = rawRead s.board a)

/-- R26, R43, R44, R450, R451. The model's own, no rule of the spec: State.reset is the PostBoot entry (DESIGN CHOICE,
log entry 5); the list of samples starts empty, and a reset keeps the sinks' records (DESIGN CHOICE, log entries 16
and 19); the framebuffer is blank, where R44 says unspecified (DESIGN CHOICE, log entry 10); which cells of video
RAM are the logo's (PRESUMED, log entry 22). -/
def Obligations.ResetValues : Prop :=
  (let s := State.reset
   s.regs = { a := 0x01, f := 0xB0, b := 0x00, c := 0x13, d := 0x00, e := 0xD8, h := 0x01, l := 0x4D,
              sp := 0xFFFE, pc := 0x0100 } ∧
   s.ctl = ⟨false, false, false, false, false, none⟩ ∧ s.clock = 0 ∧ s.board.bootVisible = false ∧
   s.board.cart.ramEnable = false ∧ s.board.cart.bankLo = 1 ∧ s.board.cart.bankHi = 0 ∧ s.board.cart.bankMode = false ∧
   s.board.timer = ⟨0xCC, 0⟩ ∧ s.board.ppu.mode = .vblank ∧ s.board.ppu.acc = 0 ∧ s.board.ppu.winLine = 0 ∧ s.board.ppu.spriteList = [] ∧
   s.board.ppu.offAcc = 0 ∧ s.board.apu = { Apu.off with ch1 := ⟨true, 0, 0⟩ } ∧ s.board.buttons = 0 ∧
   (∀ p ∈ ([
      (0xFF00, 0xCF), (0xFF01, 0x00), (0xFF02, 0x7E), (0xFF04, 0xAB), (0xFF05, 0x00), (0xFF06, 0x00),
      (0xFF07, 0xF8), (0xFF0F, 0xE1), (0xFF10, 0x80), (0xFF11, 0xBF), (0xFF12, 0xF3), (0xFF13, 0xFF),
      (0xFF14, 0xBF), (0xFF16, 0x3F), (0xFF17, 0x00), (0xFF18, 0xFF), (0xFF19, 0xBF), (0xFF1A, 0x7F),
      (0xFF1B, 0xFF), (0xFF1C, 0x9F), (0xFF1D, 0xFF), (0xFF1E, 0xBF), (0xFF20, 0xFF), (0xFF21, 0x00),
      (0xFF22, 0x00), (0xFF23, 0xBF), (0xFF24, 0x77), (0xFF25, 0xF3), (0xFF26, 0xF1), (0xFF40, 0x91),
      (0xFF41, 0x85), (0xFF42, 0x00), (0xFF43, 0x00), (0xFF44, 0x00), (0xFF45, 0x00), (0xFF46, 0xFF),
      (0xFF47, 0xFC), (0xFF48, 0xFF), (0xFF49, 0xFF), (0xFF4A, 0x00), (0xFF4B, 0x00), (0xFF50, 0x01),
      (0xFFFF, 0x00)] : List (Word × Byte)), busRead s p.1 = p.2) ∧
   (∀ a : Word, a = 0xFF03 ∨ 0xFF08 ≤ a ∧ a ≤ 0xFF0E ∨ a = 0xFF15 ∨ a = 0xFF1F ∨ 0xFF27 ≤ a ∧ a ≤ 0xFF2F ∨
      0xFF4C ≤ a ∧ a ≤ 0xFF4F ∨ 0xFF51 ≤ a ∧ a ≤ 0xFF7F → busRead s a = 0) ∧
   (∀ a : Word, 0x8000 ≤ a → a ≤ 0x9FFF → bootLogo a.toNat = false → busRead s a = 0)) ∧
  (∀ (regs : Regs) (s : State),
    let t := resetMove .postBoot regs s
    t.regs = State.reset.regs ∧ t.ctl = State.reset.ctl ∧ t.clock = 0 ∧ t.board.bootVisible = false ∧
    t.board.bootRom = s.board.bootRom ∧
    t.board.cart = { s.board.cart with ramEnable := false, bankLo := 1, bankHi := 0, bankMode := false } ∧
    t.board.timer = ⟨0xCC, 0⟩ ∧ t.board.ppu = { State.reset.board.ppu with frames := s.board.ppu.frames } ∧
    t.board.apu = { State.reset.board.apu with samples := s.board.apu.samples } ∧ t.board.buttons = 0 ∧
    ∀ a : Word, rawRead t.board a = rawRead State.reset.board a) ∧
  (∀ (regs : Regs) (s : State),
    let t := resetMove .powerOn regs s
    t.regs.pc = 0x0000 ∧ t.regs.f &&& 0x0F = 0 ∧ t.ctl = ⟨false, false, false, false, false, none⟩ ∧ t.clock = 0 ∧
    t.board.bootVisible = true ∧ t.board.cart = { s.board.cart with ramEnable := false, bankLo := 1, bankHi := 0, bankMode := false } ∧
    t.board.bootRom = s.board.bootRom ∧ t.board.timer = ⟨0, 0⟩ ∧ t.board.ppu.mode = .hblank ∧ busRead t 0x0000 = bootByte s.board 0x0000 ∧
    ∀ a : Word, 0xFF00 ≤ a ∧ a ≤ 0xFF2F ∨ 0xFF40 ≤ a ∧ a ≤ 0xFF7F ∨ a = 0xFFFF →
      rawRead t.board a = if a = 0xFF00 then 0x0F else 0x00)

/-- The base case of the invariants below. -/
def Obligations.ResetMeetsEveryInvariant : Prop :=
  let s := State.reset
  MemoryOk s.board ∧ FlagsOk s ∧ BankOk s.board ∧ JoypadOk s.board ∧ StatModeOk s.board ∧ SoundStatusOk s.board ∧
    LineOk s.board ∧ CoincidenceOk s.board ∧ FrameOk s.board ∧ AccumulatorsOk s.board

/-- R23 ("the F register's low nibble is always zero"), R97 and R99; the form of the stores is log entry 2. -/
def Obligations.EveryStepKeepsStoresFlagsAndBank : Prop :=
  ∀ s t : State, Sys2Proof.Machine.step s = .next t →
    (MemoryOk s.board → MemoryOk t.board) ∧ (FlagsOk s → FlagsOk t) ∧ (BankOk s.board → BankOk t.board)

/-- R71: the device-maintained fields are kept current in mem by their owners. -/
def Obligations.EveryStepKeepsTheMirrorsCurrent : Prop :=
  ∀ s t : State, Sys2Proof.Machine.step s = .next t →
    (JoypadOk s.board → JoypadOk t.board) ∧ (StatModeOk s.board → StatModeOk t.board) ∧ (SoundStatusOk s.board → SoundStatusOk t.board)

/-- R360, R364, R372. -/
def Obligations.EveryStepKeepsLineAndMode : Prop :=
  ∀ s t : State, LineOk s.board → Sys2Proof.Machine.step s = .next t → LineOk t.board

/-- R362 ("bit 2 read-only, 1 while LY = LYC"), R375. -/
def Obligations.EveryStepKeepsTheCoincidenceBit : Prop :=
  ∀ s t : State, CoincidenceOk s.board → Sys2Proof.Machine.step s = .next t → CoincidenceOk t.board

/-- R41, R352, R372, R378, R380, R386, R420. -/
def Obligations.EveryStepKeepsFrameAndAccumulators : Prop :=
  ∀ s t : State, Sys2Proof.Machine.step s = .next t →
    (FrameOk s.board → FrameOk t.board) ∧ (AccumulatorsOk s.board → AccumulatorsOk t.board)

/-- R10 (a parameter is fixed for the machine), R40, R64, R65, R117. That the images and the parameters are data held in
State is the model's (DESIGN CHOICE, log entries 3, 5 and 7). -/
def Obligations.ImagesAndParametersNeverChange : Prop :=
  ∀ s t : State, Sys2Proof.Machine.step s = .next t →
    t.board.bootRom = s.board.bootRom ∧ t.board.cart.rom = s.board.cart.rom ∧ t.board.cart.nbanks = s.board.cart.nbanks ∧
    t.board.cart.ramBanks = s.board.cart.ramBanks ∧ t.board.cart.kind = s.board.cart.kind ∧ t.board.params = s.board.params ∧
    (s.board.bootVisible = false → t.board.bootVisible = false)

/-- R30 ("Set by EI (delayed) and RETI"), R481, R487 ("no step exceeds 24"). -/
def Obligations.OnlyRetiAndEiEnableInterrupts : Prop :=
  ∀ s t : State, Sys2Proof.Machine.step s = .next t →
    (s.ctl.ime = false → t.ctl.ime = true →
      s.ctl.imeSched = true ∨ (fetch (wake (hostTurn s))).1 = .reti) ∧
    s.clock ≤ t.clock ∧ t.clock ≤ s.clock + 24
end

