-- ==== Sys2Proof/Laws/Memory.lean ====
section
/-! SUPPORT. The stores: read over write, and the canonical form kept by every write (spec/20_memory.md R125 (3),
spec/10_state.md R39). -/

namespace Sys2Proof.Machine

namespace Memory

/-! ## `put` and `erase` -/

@[simp] theorem find?_nil (a : Nat) : find? [] a = none := rfl

theorem find?_put (m : Memory) (a b : Nat) (v : Byte) : find? (put m a v) b = if b = a then some v else find? m b := by
  induction m with
  | nil => simp only [put, find?]; split <;> simp_all [eq_comm]
  | cons c m ih =>
    obtain ⟨k, w⟩ := c
    simp only [put]
    split
    · simp only [find?]; split <;> simp_all [eq_comm]
    · split
      · simp only [find?]; split <;> simp_all [eq_comm]
      · simp only [find?, ih]; split <;> simp_all

theorem find?_erase (m : Memory) (a b : Nat) : find? (erase m a) b = if b = a then none else find? m b := by
  induction m with
  | nil => simp [erase]
  | cons c m ih =>
    obtain ⟨k, w⟩ := c
    simp only [erase] at ih
    by_cases hk : k = a
    · simp only [erase, hk, ne_eq, not_true_eq_false, decide_false, Bool.false_eq_true, not_false_eq_true,
        List.filter_cons_of_neg, ih, find?]
      split <;> simp_all [eq_comm]
    · simp only [erase, ne_eq, hk, not_false_eq_true, decide_true, List.filter_cons_of_pos, find?, ih]
      split <;> simp_all

theorem mem_put {m : Memory} {a : Nat} {v : Byte} {c : Host.Cell} (h : c ∈ put m a v) : c = (a, v) ∨ c ∈ m := by
  induction m with
  | nil => simpa [put] using h
  | cons d m ih =>
    obtain ⟨k, w⟩ := d
    simp only [put] at h
    split at h
    · simpa using h
    · split at h
      · rcases List.mem_cons.mp h with h | h
        · exact .inl h
        · exact .inr (List.mem_cons_of_mem _ h)
      · rcases List.mem_cons.mp h with h | h
        · exact .inr (by simp [h])
        · exact (ih h).imp_right (List.mem_cons_of_mem _)

theorem sorted_put {m : Memory} (a : Nat) (v : Byte) (h : m.Sorted) : (put m a v).Sorted := by
  induction m with
  | nil => simp [put, Sorted]
  | cons d m ih =>
    obtain ⟨k, w⟩ := d
    rw [Sorted, List.pairwise_cons] at h
    simp only [put]
    split
    · rename_i hk
      refine List.pairwise_cons.mpr ⟨fun c hc => ?_, List.pairwise_cons.mpr h⟩
      rcases List.mem_cons.mp hc with rfl | hc
      · exact hk
      · exact hk.trans (h.1 c hc)
    · split
      · rename_i hk
        exact List.pairwise_cons.mpr ⟨fun c hc => hk ▸ h.1 c hc, h.2⟩
      · rename_i h1 h2
        refine List.pairwise_cons.mpr ⟨fun c hc => ?_, ih h.2⟩
        rcases mem_put hc with rfl | hc
        · simp only; omega
        · exact h.1 c hc

theorem sorted_erase {m : Memory} (a : Nat) (h : m.Sorted) : (erase m a).Sorted := h.filter _

/-! ## `get` and `set` -/

/-- What `get` answers where nothing is listed. -/
theorem get_eq (m : Memory) (e : Entry) (a : Nat) :
    m.get e a = (m.find? a).getD ((unlisted e a).getD (Config.ramByte a)) := by
  unfold Memory.get
  cases m.find? a <;> cases unlisted e a <;> rfl

/-- Read over write. -/
theorem get_set (m : Memory) (e : Entry) (a b : Nat) (v : Byte) :
    (m.set e a v).get e b = if b = a then v else m.get e b := by
  rw [get_eq, get_eq]
  unfold Memory.set
  split <;> rename_i h
  · rw [find?_erase]; split <;> simp_all
  · rw [find?_put]; split <;> simp_all

@[simp] theorem get_set_same (m : Memory) (e : Entry) (a : Nat) (v : Byte) : (m.set e a v).get e a = v := by simp [get_set]

theorem get_set_other (m : Memory) (e : Entry) {a b : Nat} (v : Byte) (h : b ≠ a) : (m.set e a v).get e b = m.get e b := by
  simp [get_set, h]

/-- A write keeps the canonical form. -/
theorem wf_set {m : Memory} {e : Entry} {a : Nat} (v : Byte) (ha : a < 0x10000) (h : m.wf e) : (m.set e a v).wf e := by
  unfold Memory.set
  split <;> rename_i hv
  · exact ⟨sorted_erase a h.1, fun c hc => h.2 c (List.mem_filter.mp hc).1⟩
  · refine ⟨sorted_put a v h.1, fun c hc => ?_⟩
    rcases mem_put hc with rfl | hc
    · exact ⟨ha, hv⟩
    · exact h.2 c hc

theorem wf_nil (e : Entry) : Memory.wf [] e := ⟨List.Pairwise.nil, by simp⟩

end Memory

/-! ## `rawRead` and `rawWrite` (R81) -/

theorem rawRead_rawWrite (s : Board) (a b : Word) (v : Byte) :
    rawRead (rawWrite s a v) b = if b = a then v else rawRead s b := by
  simp only [rawRead, rawWrite, Board.byteAt, Memory.get_set, BitVec.toNat_inj]

@[simp] theorem rawRead_rawWrite_same (s : Board) (a : Word) (v : Byte) : rawRead (rawWrite s a v) a = v := by
  simp [rawRead_rawWrite]

theorem rawRead_rawWrite_other (s : Board) {a b : Word} (v : Byte) (h : b ≠ a) :
    rawRead (rawWrite s a v) b = rawRead s b := by
  simp [rawRead_rawWrite, h]

theorem byteAt_rawWrite (s : Board) (a : Word) (n : Nat) (v : Byte) :
    (rawWrite s a v).byteAt n = if n = a.toNat then v else s.byteAt n := by
  simp only [rawWrite, Board.byteAt, Memory.get_set]

theorem wf_rawWrite {s : Board} (a : Word) (v : Byte) (h : s.memWf) : (rawWrite s a v).memWf :=
  Memory.wf_set v a.isLt h

end Sys2Proof.Machine
end

