-- ==== Sys2Proof/Laws/State.lean ====
section
/-! SUPPORT. One lemma per field per update of the state, each true by unfolding, and the algebra of the register
file (spec/10_state.md R20 to R23): later proofs never open a record update. -/

namespace Sys2Proof.Machine

/-! ## The register file -/

theorem Regs.get_set (g : Regs) (r q : Reg8) (v : Byte) : (g.set r v).get q = if q = r then v else g.get q := by
  cases r <;> cases q <;> rfl

@[simp] theorem Regs.get_set_same (g : Regs) (r : Reg8) (v : Byte) : (g.set r v).get r = v := by cases r <;> rfl

@[simp] theorem Regs.set_f (g : Regs) (r : Reg8) (v : Byte) : (g.set r v).f = g.f := by cases r <;> rfl

@[simp] theorem Regs.set_sp (g : Regs) (r : Reg8) (v : Byte) : (g.set r v).sp = g.sp := by cases r <;> rfl

@[simp] theorem Regs.set_pc (g : Regs) (r : Reg8) (v : Byte) : (g.set r v).pc = g.pc := by cases r <;> rfl

/-- A register file is its seven `r8` registers, `F`, `SP` and `PC`. -/
theorem Regs.eq_of_get {g h : Regs} (hr : ∀ r, g.get r = h.get r) (hf : g.f = h.f) (hs : g.sp = h.sp) (hp : g.pc = h.pc) :
    g = h := by
  have hb := hr .b; have hc := hr .c; have hd := hr .d; have he := hr .e
  have hh := hr .h; have hl := hr .l; have ha := hr .a
  cases g; cases h; simp_all [Regs.get]

/-! ## Updates of the register file: what `regs` becomes -/

@[simp] theorem State.setReg_regs (s : State) (r : Reg8) (v : Byte) : (s.setReg r v).regs = s.regs.set r v := rfl

@[simp] theorem State.setBc_regs (s : State) (v : Word) : (s.setBc v).regs = { s.regs with b := hiByte v, c := loByte v } := rfl

@[simp] theorem State.setDe_regs (s : State) (v : Word) : (s.setDe v).regs = { s.regs with d := hiByte v, e := loByte v } := rfl

@[simp] theorem State.setHl_regs (s : State) (v : Word) : (s.setHl v).regs = { s.regs with h := hiByte v, l := loByte v } := rfl

@[simp] theorem State.setAf_regs (s : State) (v : Word) : (s.setAf v).regs = { s.regs with a := hiByte v, f := loByte v &&& 0xF0 } := rfl

@[simp] theorem State.setSp_regs (s : State) (v : Word) : (s.setSp v).regs = { s.regs with sp := v } := rfl

@[simp] theorem State.setPc_regs (s : State) (v : Word) : (s.setPc v).regs = { s.regs with pc := v } := rfl

@[simp] theorem State.setFlags_regs (s : State) (z n h c : Bool) : (s.setFlags z n h c).regs = { s.regs with f := packFlags z n h c } := rfl

/-! ## `setReg` keeps everything else -/

@[simp] theorem State.setReg_ctl (s : State) (r : Reg8) (v : Byte) : (s.setReg r v).ctl = s.ctl := rfl
@[simp] theorem State.setReg_clock (s : State) (r : Reg8) (v : Byte) : (s.setReg r v).clock = s.clock := rfl
@[simp] theorem State.setReg_board (s : State) (r : Reg8) (v : Byte) : (s.setReg r v).board = s.board := rfl
@[simp] theorem State.setReg_hostMoves (s : State) (r : Reg8) (v : Byte) : (s.setReg r v).hostMoves = s.hostMoves := rfl

/-! ## `setBc` keeps everything else -/

@[simp] theorem State.setBc_ctl (s : State) (v : Word) : (s.setBc v).ctl = s.ctl := rfl
@[simp] theorem State.setBc_clock (s : State) (v : Word) : (s.setBc v).clock = s.clock := rfl
@[simp] theorem State.setBc_board (s : State) (v : Word) : (s.setBc v).board = s.board := rfl
@[simp] theorem State.setBc_hostMoves (s : State) (v : Word) : (s.setBc v).hostMoves = s.hostMoves := rfl

/-! ## `setDe` keeps everything else -/

@[simp] theorem State.setDe_ctl (s : State) (v : Word) : (s.setDe v).ctl = s.ctl := rfl
@[simp] theorem State.setDe_clock (s : State) (v : Word) : (s.setDe v).clock = s.clock := rfl
@[simp] theorem State.setDe_board (s : State) (v : Word) : (s.setDe v).board = s.board := rfl
@[simp] theorem State.setDe_hostMoves (s : State) (v : Word) : (s.setDe v).hostMoves = s.hostMoves := rfl

/-! ## `setHl` keeps everything else -/

@[simp] theorem State.setHl_ctl (s : State) (v : Word) : (s.setHl v).ctl = s.ctl := rfl
@[simp] theorem State.setHl_clock (s : State) (v : Word) : (s.setHl v).clock = s.clock := rfl
@[simp] theorem State.setHl_board (s : State) (v : Word) : (s.setHl v).board = s.board := rfl
@[simp] theorem State.setHl_hostMoves (s : State) (v : Word) : (s.setHl v).hostMoves = s.hostMoves := rfl

/-! ## `setAf` keeps everything else -/

@[simp] theorem State.setAf_ctl (s : State) (v : Word) : (s.setAf v).ctl = s.ctl := rfl
@[simp] theorem State.setAf_clock (s : State) (v : Word) : (s.setAf v).clock = s.clock := rfl
@[simp] theorem State.setAf_board (s : State) (v : Word) : (s.setAf v).board = s.board := rfl
@[simp] theorem State.setAf_hostMoves (s : State) (v : Word) : (s.setAf v).hostMoves = s.hostMoves := rfl

/-! ## `setSp` keeps everything else -/

@[simp] theorem State.setSp_ctl (s : State) (v : Word) : (s.setSp v).ctl = s.ctl := rfl
@[simp] theorem State.setSp_clock (s : State) (v : Word) : (s.setSp v).clock = s.clock := rfl
@[simp] theorem State.setSp_board (s : State) (v : Word) : (s.setSp v).board = s.board := rfl
@[simp] theorem State.setSp_hostMoves (s : State) (v : Word) : (s.setSp v).hostMoves = s.hostMoves := rfl

/-! ## `setPc` keeps everything else -/

@[simp] theorem State.setPc_ctl (s : State) (v : Word) : (s.setPc v).ctl = s.ctl := rfl
@[simp] theorem State.setPc_clock (s : State) (v : Word) : (s.setPc v).clock = s.clock := rfl
@[simp] theorem State.setPc_board (s : State) (v : Word) : (s.setPc v).board = s.board := rfl
@[simp] theorem State.setPc_hostMoves (s : State) (v : Word) : (s.setPc v).hostMoves = s.hostMoves := rfl

/-! ## `setFlags` keeps everything else -/

@[simp] theorem State.setFlags_ctl (s : State) (z n h c : Bool) : (s.setFlags z n h c).ctl = s.ctl := rfl
@[simp] theorem State.setFlags_clock (s : State) (z n h c : Bool) : (s.setFlags z n h c).clock = s.clock := rfl
@[simp] theorem State.setFlags_board (s : State) (z n h c : Bool) : (s.setFlags z n h c).board = s.board := rfl
@[simp] theorem State.setFlags_hostMoves (s : State) (z n h c : Bool) : (s.setFlags z n h c).hostMoves = s.hostMoves := rfl

/-! ## `setReg16` keeps everything else -/

@[simp] theorem State.setReg16_ctl (s : State) (p : Reg16) (v : Word) : (s.setReg16 p v).ctl = s.ctl := by cases p <;> rfl
@[simp] theorem State.setReg16_clock (s : State) (p : Reg16) (v : Word) : (s.setReg16 p v).clock = s.clock := by cases p <;> rfl
@[simp] theorem State.setReg16_board (s : State) (p : Reg16) (v : Word) : (s.setReg16 p v).board = s.board := by cases p <;> rfl
@[simp] theorem State.setReg16_hostMoves (s : State) (p : Reg16) (v : Word) : (s.setReg16 p v).hostMoves = s.hostMoves := by cases p <;> rfl

/-! ## `setReg16s` keeps everything else -/

@[simp] theorem State.setReg16s_ctl (s : State) (p : Reg16s) (v : Word) : (s.setReg16s p v).ctl = s.ctl := by cases p <;> rfl
@[simp] theorem State.setReg16s_clock (s : State) (p : Reg16s) (v : Word) : (s.setReg16s p v).clock = s.clock := by cases p <;> rfl
@[simp] theorem State.setReg16s_board (s : State) (p : Reg16s) (v : Word) : (s.setReg16s p v).board = s.board := by cases p <;> rfl
@[simp] theorem State.setReg16s_hostMoves (s : State) (p : Reg16s) (v : Word) : (s.setReg16s p v).hostMoves = s.hostMoves := by cases p <;> rfl

/-! ## `advance` -/

@[simp] theorem State.advance_regs (s : State) (n k : Nat) : (s.advance n k).regs = { s.regs with pc := s.nextPc n } := rfl
@[simp] theorem State.advance_ctl (s : State) (n k : Nat) : (s.advance n k).ctl = { s.ctl with haltBug := false } := rfl
@[simp] theorem State.advance_clock (s : State) (n k : Nat) : (s.advance n k).clock = s.clock + k := rfl
@[simp] theorem State.advance_board (s : State) (n k : Nat) : (s.advance n k).board = s.board := rfl
@[simp] theorem State.advance_hostMoves (s : State) (n k : Nat) : (s.advance n k).hostMoves = s.hostMoves := rfl

/-! ## The Bus, as the CPU uses it, reaches the board only -/

@[simp] theorem afterRead_regs (s : State) (a : Word) : (afterRead s a).regs = s.regs := rfl
@[simp] theorem busWrite_regs (s : State) (a : Word) (v : Byte) : (busWrite s a v).regs = s.regs := rfl
@[simp] theorem afterRead_ctl (s : State) (a : Word) : (afterRead s a).ctl = s.ctl := rfl
@[simp] theorem busWrite_ctl (s : State) (a : Word) (v : Byte) : (busWrite s a v).ctl = s.ctl := rfl
@[simp] theorem afterRead_clock (s : State) (a : Word) : (afterRead s a).clock = s.clock := rfl
@[simp] theorem busWrite_clock (s : State) (a : Word) (v : Byte) : (busWrite s a v).clock = s.clock := rfl
@[simp] theorem afterRead_hostMoves (s : State) (a : Word) : (afterRead s a).hostMoves = s.hostMoves := rfl
@[simp] theorem busWrite_hostMoves (s : State) (a : Word) (v : Byte) : (busWrite s a v).hostMoves = s.hostMoves := rfl
@[simp] theorem afterRead_board (s : State) (a : Word) : (afterRead s a).board = afterMemRead s.board a := rfl
@[simp] theorem busWrite_board (s : State) (a : Word) (v : Byte) : (busWrite s a v).board = memWrite s.board a v := rfl

/-! ## `rawWrite` keeps everything but `mem` -/

@[simp] theorem rawWrite_bootVisible (s : Board) (a : Word) (v : Byte) : (rawWrite s a v).bootVisible = s.bootVisible := rfl
@[simp] theorem rawWrite_bootRom (s : Board) (a : Word) (v : Byte) : (rawWrite s a v).bootRom = s.bootRom := rfl
@[simp] theorem rawWrite_cart (s : Board) (a : Word) (v : Byte) : (rawWrite s a v).cart = s.cart := rfl
@[simp] theorem rawWrite_timer (s : Board) (a : Word) (v : Byte) : (rawWrite s a v).timer = s.timer := rfl
@[simp] theorem rawWrite_ppu (s : Board) (a : Word) (v : Byte) : (rawWrite s a v).ppu = s.ppu := rfl
@[simp] theorem rawWrite_apu (s : Board) (a : Word) (v : Byte) : (rawWrite s a v).apu = s.apu := rfl
@[simp] theorem rawWrite_buttons (s : Board) (a : Word) (v : Byte) : (rawWrite s a v).buttons = s.buttons := rfl
@[simp] theorem rawWrite_params (s : Board) (a : Word) (v : Byte) : (rawWrite s a v).params = s.params := rfl
@[simp] theorem rawWrite_draws (s : Board) (a : Word) (v : Byte) : (rawWrite s a v).draws = s.draws := rfl

/-! ## `afterMemRead` keeps everything but `draws` -/

@[simp] theorem afterMemRead_mem (s : Board) (a : Word) : (afterMemRead s a).mem = s.mem := by
  unfold afterMemRead; split <;> rfl
@[simp] theorem afterMemRead_bootVisible (s : Board) (a : Word) : (afterMemRead s a).bootVisible = s.bootVisible := by
  unfold afterMemRead; split <;> rfl
@[simp] theorem afterMemRead_bootRom (s : Board) (a : Word) : (afterMemRead s a).bootRom = s.bootRom := by
  unfold afterMemRead; split <;> rfl
@[simp] theorem afterMemRead_cart (s : Board) (a : Word) : (afterMemRead s a).cart = s.cart := by
  unfold afterMemRead; split <;> rfl
@[simp] theorem afterMemRead_timer (s : Board) (a : Word) : (afterMemRead s a).timer = s.timer := by
  unfold afterMemRead; split <;> rfl
@[simp] theorem afterMemRead_ppu (s : Board) (a : Word) : (afterMemRead s a).ppu = s.ppu := by
  unfold afterMemRead; split <;> rfl
@[simp] theorem afterMemRead_apu (s : Board) (a : Word) : (afterMemRead s a).apu = s.apu := by
  unfold afterMemRead; split <;> rfl
@[simp] theorem afterMemRead_buttons (s : Board) (a : Word) : (afterMemRead s a).buttons = s.buttons := by
  unfold afterMemRead; split <;> rfl
@[simp] theorem afterMemRead_params (s : Board) (a : Word) : (afterMemRead s a).params = s.params := by
  unfold afterMemRead; split <;> rfl
@[simp] theorem afterMemRead_byteAt (s : Board) (a : Word) (n : Nat) : (afterMemRead s a).byteAt n = s.byteAt n := by
  simp [Board.byteAt]
theorem afterMemRead_memWf (s : Board) (a : Word) : (afterMemRead s a).memWf ↔ s.memWf := by
  unfold Board.memWf; simp only [afterMemRead_mem, afterMemRead_params]


/-! ## Pairs and flags -/

@[simp] theorem hiByte_wordOf (h l : Byte) : hiByte (wordOf h l) = h := by
  ext i hi
  simp only [hiByte, wordOf, BitVec.getElem_extractLsb']
  exact (BitVec.getLsbD_append (x := h) (y := l)).trans (by simp [hi])

@[simp] theorem loByte_wordOf (h l : Byte) : loByte (wordOf h l) = l := by
  ext i hi
  simp only [loByte, wordOf, BitVec.getElem_extractLsb', Nat.zero_add]
  exact (BitVec.getLsbD_append (x := h) (y := l)).trans (by simp [hi])

@[simp] theorem wordOf_hi_lo (w : Word) : wordOf (hiByte w) (loByte w) = w := by
  simp only [hiByte, loByte, wordOf]; ext i hi
  simp only [BitVec.getElem_append, BitVec.getElem_extractLsb', Nat.zero_add]
  split
  · rfl
  · rw [show 8 + (i - 8) = i by omega]; simp [BitVec.getLsbD_eq_getElem hi]

@[simp] theorem packFlags_bits (z n h c : Bool) :
    (packFlags z n h c).getLsbD 7 = z ∧ (packFlags z n h c).getLsbD 6 = n ∧ (packFlags z n h c).getLsbD 5 = h ∧
    (packFlags z n h c).getLsbD 4 = c ∧ packFlags z n h c &&& 0x0F = 0 := by
  cases z <;> cases n <;> cases h <;> cases c <;> decide

/-- The HALT bug makes the first byte be read twice (R311): the address after the instruction, both ways of saying it. -/
theorem State.nextPc_eq (s : State) (n : Nat) (hn : 0 < n) :
    s.nextPc n = s.regs.pc + BitVec.ofNat 16 (if s.ctl.haltBug then n - 1 else n) := by
  unfold State.nextPc
  split
  · obtain ⟨k, rfl⟩ := Nat.exists_eq_add_of_lt hn
    simp only [Nat.zero_add, Nat.add_sub_cancel, ← BitVec.ofNat_add_ofNat]
    simp [BitVec.sub_eq_add_neg, BitVec.add_assoc]
  · simp

end Sys2Proof.Machine
end

