-- ==== Sys2Proof/Laws/Touches.lean ====
section
/-! SUPPORT. What each device function can touch: one relation, one lemma per function of the Timer, the PPU and the APU.
It gives at once the frame of `mem`, the canonical form, and the parts of the board that stay (spec/20_memory.md R81,
spec/60_exceptions.md R350 to R440: what each owner writes). -/

namespace Sys2Proof.Machine

/-- `t` is `s` but for the bytes at `l` and, where flagged, the hidden state of the Timer, the PPU, the APU. -/
structure Touches (l : List Word) (tim vid snd : Bool) (s t : Board) : Prop where
  bytes : ∀ a, a ∉ l → rawRead t a = rawRead s a
  wf : s.memWf → t.memWf
  bootVisible : t.bootVisible = s.bootVisible
  bootRom : t.bootRom = s.bootRom
  cart : t.cart = s.cart
  buttons : t.buttons = s.buttons
  params : t.params = s.params
  draws : t.draws = s.draws
  timer : tim = false → t.timer = s.timer
  ppu : vid = false → t.ppu = s.ppu
  apu : snd = false → t.apu = s.apu

namespace Touches

variable {l m : List Word} {tim vid snd tim' vid' snd' : Bool} {s t u : Board}

theorem refl (s : Board) : Touches l tim vid snd s s :=
  ⟨fun _ _ => rfl, id, rfl, rfl, rfl, rfl, rfl, rfl, fun _ => rfl, fun _ => rfl, fun _ => rfl⟩

theorem trans (h : Touches l tim vid snd s t) (k : Touches l tim vid snd t u) : Touches l tim vid snd s u :=
  ⟨fun a ha => (k.bytes a ha).trans (h.bytes a ha), fun w => k.wf (h.wf w), k.bootVisible.trans h.bootVisible,
    k.bootRom.trans h.bootRom, k.cart.trans h.cart, k.buttons.trans h.buttons, k.params.trans h.params,
    k.draws.trans h.draws, fun e => (k.timer e).trans (h.timer e), fun e => (k.ppu e).trans (h.ppu e),
    fun e => (k.apu e).trans (h.apu e)⟩

theorem mono (h : Touches l tim vid snd s t) (hl : l ⊆ m := by simp) (ht : tim = true → tim' = true := by simp)
    (hv : vid = true → vid' = true := by simp) (hs : snd = true → snd' = true := by simp) :
    Touches m tim' vid' snd' s t :=
  ⟨fun a ha => h.bytes a (fun c => ha (hl c)), h.wf, h.bootVisible, h.bootRom, h.cart, h.buttons, h.params, h.draws,
    fun e => h.timer (by cases tim <;> simp_all), fun e => h.ppu (by cases vid <;> simp_all),
    fun e => h.apu (by cases snd <;> simp_all)⟩

/-- A raw write touches its address. -/
theorem rawWrite (s : Board) {a : Word} (v : Byte) (ha : a ∈ l := by simp) :
    Touches l tim vid snd s (Machine.rawWrite s a v) :=
  ⟨fun _ hb => rawRead_rawWrite_other s v (fun e => hb (e ▸ ha)), wf_rawWrite a v, rfl, rfl, rfl, rfl, rfl, rfl,
    fun _ => rfl, fun _ => rfl, fun _ => rfl⟩

theorem withTimer (s : Board) (x : Timer) : Touches l true vid snd s { s with timer := x } :=
  ⟨fun _ _ => rfl, id, rfl, rfl, rfl, rfl, rfl, rfl, by simp, fun _ => rfl, fun _ => rfl⟩

theorem withPpu (s : Board) (x : Ppu) : Touches l tim true snd s { s with ppu := x } :=
  ⟨fun _ _ => rfl, id, rfl, rfl, rfl, rfl, rfl, rfl, fun _ => rfl, by simp, fun _ => rfl⟩

theorem mapApu (s : Board) (f : Apu → Apu) : Touches l tim vid true s (Machine.mapApu f s) :=
  ⟨fun _ _ => rfl, id, rfl, rfl, rfl, rfl, rfl, rfl, fun _ => rfl, fun _ => rfl, by simp⟩

theorem ite {c : Prop} [Decidable c] (h : c → Touches l tim vid snd s t) (k : ¬ c → Touches l tim vid snd s u) :
    Touches l tim vid snd s (if c then t else u) := by
  split
  · exact h ‹_›
  · exact k ‹_›

theorem iterate {f : Board → Board} (h : ∀ s, Touches l tim vid snd s (f s)) (n : Nat) (s : Board) :
    Touches l tim vid snd s (Machine.iterate f n s) := by
  induction n generalizing s with
  | zero => exact refl s
  | succ n ih => exact (h s).trans (ih (f s))

end Touches

open Touches

/-! ## Interrupt requests -/

theorem touches_requestInterrupt (s : Board) (m : Byte) :
    Touches [Io.if_] false false false s (requestInterrupt s m) := Touches.rawWrite s _

/-! ## Timer -/

theorem touches_divTick (s : Board) : Touches [Io.div] true false false s (divTick s) := Touches.rawWrite s _

theorem touches_divStep (n : Nat) (s : Board) : Touches [Io.div] true false false s (divStep n s) :=
  (Touches.withTimer s _).trans (Touches.iterate touches_divTick _ _)

theorem touches_timaTick (s : Board) : Touches [Io.tima, Io.if_] true false false s (timaTick s) :=
  Touches.ite (fun _ => (Touches.rawWrite s _).trans (touches_requestInterrupt _ _).mono) (fun _ => Touches.rawWrite s _)

theorem touches_timaStep (n : Nat) (s : Board) : Touches [Io.tima, Io.if_] true false false s (timaStep n s) := by
  unfold timaStep
  refine Touches.ite (fun _ => ?_) (fun _ => Touches.refl s)
  exact (Touches.withTimer s _).trans (Touches.iterate touches_timaTick _ _)

theorem touches_timerStep (n : Nat) (s : Board) :
    Touches [Io.div, Io.tima, Io.if_] true false false s (timerStep n s) :=
  (touches_divStep n s).mono.trans (touches_timaStep n _).mono

/-! ## PPU -/

theorem touches_writeStatMode (m : PpuMode) (s : Board) :
    Touches [Io.stat] false false false s (writeStatMode m s) := Touches.rawWrite s _

theorem touches_setMode (m : PpuMode) (s : Board) : Touches [Io.stat, Io.if_] false true false s (setMode m s) := by
  unfold setMode
  have h : Touches [Io.stat, Io.if_] false true false s
      (writeStatMode m { s with ppu := { s.ppu with mode := m } }) :=
    (Touches.withPpu s _).trans (touches_writeStatMode m _).mono
  exact Touches.ite (fun _ => h.trans (touches_requestInterrupt _ _).mono) (fun _ => h)

theorem touches_lycCompare (s : Board) :
    Touches [Io.stat, Io.if_] false false false s (lycCompare s) := by
  unfold lycCompare
  refine Touches.ite (fun _ => ?_) (fun _ => Touches.rawWrite s _)
  exact Touches.ite (fun _ => (Touches.rawWrite s _).trans (touches_requestInterrupt _ _).mono) (fun _ => Touches.rawWrite s _)

theorem touches_raiseVBlank (s : Board) : Touches [Io.if_] false false false s (raiseVBlank s) :=
  touches_requestInterrupt s _

theorem touches_frameDone (s : Board) : Touches [] false true false s (frameDone s) := Touches.withPpu s _

theorem touches_renderLine (s : Board) (ly : Nat) : Touches [] false true false s (renderLine s ly) := Touches.withPpu s _

theorem touches_ppuDisable (s : Board) : Touches [Io.ly, Io.stat] false true false s (ppuDisable s) :=
  ((Touches.rawWrite s _).trans (Touches.rawWrite _ _)).trans (Touches.withPpu _ _)

theorem touches_ppuEnable (s : Board) : Touches [Io.ly, Io.stat, Io.if_] false true false s (ppuEnable s) :=
  (((Touches.rawWrite s _).trans (Touches.withPpu _ _)).trans (touches_writeStatMode _ _).mono).trans
    (touches_lycCompare _).mono

theorem touches_ppuModeEnd (s : Board) :
    Touches [Io.ly, Io.stat, Io.if_] false true false s (ppuModeEnd s) := by
  unfold ppuModeEnd
  cases s.ppu.mode <;> dsimp only
  · have h : Touches [Io.ly, Io.stat, Io.if_] false true false s
        (lycCompare (rawWrite s Io.ly (rawRead s Io.ly + 1))) := (Touches.rawWrite s _).trans (touches_lycCompare _).mono
    refine Touches.ite (fun _ => ?_) (fun _ => h.trans (touches_setMode _ _).mono)
    exact ((h.trans (touches_setMode _ _).mono).trans (touches_raiseVBlank _).mono).trans (touches_frameDone _).mono
  · refine Touches.ite (fun _ => ?_) (fun _ => (Touches.rawWrite s _).trans (touches_lycCompare _).mono)
    exact (((Touches.rawWrite s _).trans (Touches.withPpu _ _)).trans (touches_lycCompare _).mono).trans
      (touches_setMode _ _).mono
  · exact (Touches.withPpu s _).trans (touches_setMode _ _).mono
  · exact (touches_renderLine s _).mono.trans (touches_setMode _ _).mono

theorem touches_ppuLoop (n : Nat) (s : Board) : Touches [Io.ly, Io.stat, Io.if_] false true false s (ppuLoop n s) := by
  induction n generalizing s with
  | zero => exact Touches.refl s
  | succ n ih =>
    unfold ppuLoop
    exact Touches.ite (fun _ => Touches.refl s)
      (fun _ => ((Touches.withPpu s _).trans (touches_ppuModeEnd _)).trans (ih _))

theorem touches_ppuOffStep (n : Nat) (s : Board) : Touches [] false true false s (ppuOffStep n s) := by
  unfold ppuOffStep
  exact Touches.ite (fun _ => Touches.withPpu s _) (fun _ => (Touches.withPpu s _).trans (Touches.withPpu _ _))

theorem touches_ppuStep (n : Nat) (s : Board) : Touches [Io.ly, Io.stat, Io.if_] false true false s (ppuStep n s) := by
  unfold ppuStep
  exact Touches.ite (fun _ => (Touches.withPpu s _).trans (touches_ppuLoop _ _)) (fun _ => (touches_ppuOffStep n s).mono)

/-! ## APU -/

theorem touches_setEnabled (ch : Chan) (b : Bool) (s : Board) : Touches [Io.nr52] false false true s (setEnabled ch b s) :=
  (Touches.mapApu s _).trans (Touches.rawWrite _ _)

theorem touches_setLen {l : List Word} {tim vid : Bool} (ch : Chan) (n : Nat) (s : Board) :
    Touches l tim vid true s (setLen ch n s) := Touches.mapApu s _

theorem touches_setTimer {l : List Word} {tim vid : Bool} (ch : Chan) (n : Nat) (s : Board) :
    Touches l tim vid true s (setTimer ch n s) := Touches.mapApu s _

theorem touches_sweepCheck (s : Board) : Touches [Io.nr52] false false true s (sweepCheck s) :=
  Touches.ite (fun _ => touches_setEnabled _ _ _) (fun _ => Touches.refl s)

theorem touches_sweepStore (new : BitVec 11) (s : Board) :
    Touches [Io.nr13, Io.nr14] false false true s (sweepStore new s) :=
  ((Touches.mapApu s _).trans (Touches.rawWrite _ _)).trans (Touches.rawWrite _ _)

theorem touches_sweepTick (s : Board) : Touches [Io.nr13, Io.nr14, Io.nr52] false false true s (sweepTick s) := by
  unfold sweepTick
  refine Touches.ite (fun _ => Touches.mapApu s _) (fun _ => ?_)
  refine Touches.ite (fun _ => ?_) (fun _ => (Touches.mapApu s _).trans (Touches.mapApu _ _))
  refine Touches.ite (fun _ => ?_)
    (fun _ => ((Touches.mapApu s _).trans (Touches.mapApu _ _)).trans (touches_sweepCheck _).mono)
  exact ((((Touches.mapApu s _).trans (Touches.mapApu _ _)).trans (touches_sweepCheck _).mono).trans
    (touches_sweepStore _ _).mono).trans (touches_sweepCheck _).mono

theorem touches_triggerEnvelope {l : List Word} {tim vid : Bool} (ch : Chan) (s : Board) :
    Touches l tim vid true s (triggerEnvelope ch s) := by
  unfold triggerEnvelope
  exact Touches.mapApu s _

theorem touches_triggerSweep (s : Board) : Touches [Io.nr52] false false true s (triggerSweep s) :=
  Touches.ite (fun _ => (Touches.mapApu s _).trans (touches_sweepCheck _)) (fun _ => Touches.mapApu s _)

theorem touches_triggerOwn (ch : Chan) (s : Board) : Touches [Io.nr52] false false true s (triggerOwn ch s) := by
  unfold triggerOwn
  cases ch
  · exact (touches_triggerEnvelope _ s).trans (touches_triggerSweep _)
  · exact touches_triggerEnvelope _ s
  · exact Touches.mapApu s _
  · exact (touches_triggerEnvelope _ s).trans (Touches.mapApu _ _)

theorem touches_trigger (ch : Chan) (s : Board) : Touches [Io.nr52] false false true s (trigger ch s) := by
  have h1 := touches_setEnabled ch true s
  have h2 : Touches [Io.nr52] false false true s
      (if ((setEnabled ch true s).apu.channel ch).len = 0 then setLen ch (fullLength ch) (setEnabled ch true s)
        else setEnabled ch true s) :=
    Touches.ite (fun _ => h1.trans (touches_setLen _ _ _)) (fun _ => h1)
  have h3 := fun n => (h2.trans (touches_setTimer ch n _)).trans (touches_triggerOwn ch _)
  exact Touches.ite (fun _ => h3 _) (fun _ => (h3 _).trans (touches_setEnabled _ _ _))

theorem touches_lengthTick (ch : Chan) (s : Board) : Touches [Io.nr52] false false true s (lengthTick ch s) :=
  Touches.ite
    (fun _ => Touches.ite (fun _ => (touches_setLen ch _ s).trans (touches_setEnabled _ _ _)) (fun _ => touches_setLen ch _ s))
    (fun _ => Touches.refl s)

theorem touches_envelopeTick (ch : Chan) (s : Board) : Touches [] false false true s (envelopeTick ch s) := by
  unfold envelopeTick
  split
  · exact Touches.mapApu s _
  · exact Touches.refl s

theorem touches_frameSequencerTick (s : Board) :
    Touches [Io.nr13, Io.nr14, Io.nr52] false false true s (frameSequencerTick s) := by
  have len : ∀ s, Touches [Io.nr13, Io.nr14, Io.nr52] false false true s
      (lengthTick .four (lengthTick .three (lengthTick .two (lengthTick .one s)))) := fun s =>
    (((touches_lengthTick _ s).trans (touches_lengthTick _ _)).trans (touches_lengthTick _ _)).trans
      (touches_lengthTick _ _) |>.mono
  have env : ∀ s, Touches [Io.nr13, Io.nr14, Io.nr52] false false true s
      (envelopeTick .four (envelopeTick .two (envelopeTick .one s))) := fun s =>
    ((touches_envelopeTick _ s).trans (touches_envelopeTick _ _)).trans (touches_envelopeTick _ _) |>.mono
  have h1 := Touches.ite (c := s.apu.fsStep.getLsbD 0 = true) (fun _ => Touches.refl s) (fun _ => len s)
  have h2 := fun u => Touches.ite (c := s.apu.fsStep = 2 ∨ s.apu.fsStep = 6)
    (fun _ => touches_sweepTick u) (fun _ => Touches.refl u)
  have h3 := fun u => Touches.ite (c := s.apu.fsStep = 7) (fun _ => env u) (fun _ => Touches.refl u)
  unfold frameSequencerTick
  exact ((h1.trans (h2 _)).trans (h3 _)).trans (Touches.mapApu _ _)

theorem touches_generatorStep {l : List Word} {tim vid : Bool} (ch : Chan) (s : Board) :
    Touches l tim vid true s (generatorStep ch s) := by
  unfold generatorStep
  cases ch <;> exact (touches_setTimer _ _ s).trans (Touches.mapApu _ _)

theorem touches_timerCycle {l : List Word} {tim vid : Bool} (ch : Chan) (s : Board) :
    Touches l tim vid true s (timerCycle ch s) :=
  Touches.ite (fun _ => (touches_setTimer ch _ s).trans (touches_generatorStep _ _)) (fun _ => touches_setTimer ch _ s)

theorem touches_apuPoweredCycle (s : Board) :
    Touches [Io.nr13, Io.nr14, Io.nr52] false false true s (apuPoweredCycle s) :=
  ((((Touches.ite (fun _ => (Touches.mapApu s _).trans (touches_frameSequencerTick _)) (fun _ => Touches.mapApu s _)).trans
    (touches_timerCycle _ _)).trans (touches_timerCycle _ _)).trans (touches_timerCycle _ _)).trans (touches_timerCycle _ _)

theorem touches_downsampleCycle {l : List Word} {tim vid : Bool} (s : Board) :
    Touches l tim vid true s (downsampleCycle s) :=
  Touches.ite (fun _ => Touches.mapApu s _) (fun _ => Touches.mapApu s _)

theorem touches_apuCycle (s : Board) : Touches [Io.nr13, Io.nr14, Io.nr52] false false true s (apuCycle s) :=
  (Touches.ite (fun _ => touches_apuPoweredCycle s) (fun _ => Touches.refl s)).trans (touches_downsampleCycle _)

theorem touches_apuStep (n : Nat) (s : Board) : Touches [Io.nr13, Io.nr14, Io.nr52] false false true s (apuStep n s) := by
  induction n generalizing s with
  | zero => exact Touches.refl s
  | succ n ih => exact (touches_apuCycle s).trans (ih _)

theorem touches_clearRegisters (l : List Word) (s : Board) : Touches l false false false s (clearRegisters l s) := by
  induction l generalizing s with
  | nil => exact Touches.refl s
  | cons a l ih => exact (Touches.rawWrite s 0).trans ((ih _).mono (List.subset_cons_self _ _))

theorem touches_apuPowerOff (s : Board) : Touches (Io.nr52 :: soundRegisters) false false true s (apuPowerOff s) := by
  have off : ∀ ch u, Touches (Io.nr52 :: soundRegisters) false false true u (setEnabled ch false u) :=
    fun ch u => (touches_setEnabled ch false u).mono
  have h1 : Touches (Io.nr52 :: soundRegisters) false false true s (clearRegisters soundRegisters s) :=
    (touches_clearRegisters soundRegisters s).mono (List.subset_cons_self _ _)
  unfold apuPowerOff
  exact ((((h1.trans (off _ _)).trans (off _ _)).trans (off _ _)).trans (off _ _)).trans (Touches.mapApu _ _)

theorem touches_writeNr52 (v : Byte) (s : Board) : Touches (Io.nr52 :: soundRegisters) false false true s (writeNr52 v s) := by
  have h := Touches.rawWrite (l := Io.nr52 :: soundRegisters) (tim := false) (vid := false) (snd := true) (a := Io.nr52)
    s ((v &&& 0xF0) ||| (rawRead s Io.nr52 &&& 0x0F))
  exact Touches.ite (fun _ => h.trans (touches_apuPowerOff _))
    (fun _ => Touches.ite (fun _ => h.trans (Touches.mapApu _ _)) (fun _ => h))

theorem touches_apuWriteEffect (a : Word) (v : Byte) (s : Board) :
    Touches [Io.nr52] false false true s (apuWriteEffect a v s) := by
  unfold apuWriteEffect
  iterate 12
    refine Touches.ite (fun _ => ?_) (fun _ => ?_)
    on_goal 1 => first
      | exact touches_setLen _ _ _
      | exact Touches.ite (fun _ => touches_setEnabled _ _ _) (fun _ => Touches.refl s)
      | exact Touches.ite (fun _ => Touches.refl s) (fun _ => touches_setEnabled _ _ _)
      | exact Touches.ite (fun _ => touches_trigger _ _) (fun _ => Touches.refl s)
  exact Touches.refl s

end Sys2Proof.Machine
end

