-- ==== Sys2Proof/Laws/Bus.lean ====
section
/-! SUPPORT. The Bus: what each I/O write touches, what a checked write can change at all, and the frame of reads
(spec/20_memory.md R70, R80, R110 to R121, R125). -/

namespace Sys2Proof.Machine

/-! ## I/O writes -/

theorem touches_writeP1 (v : Byte) (s : Board) : Touches [Io.p1] false false false s (writeP1 v s) := Touches.rawWrite s _

theorem touches_writeDiv (s : Board) : Touches [Io.div] true false false s (writeDiv s) :=
  (Touches.rawWrite s _).trans (Touches.withTimer _ _)

theorem touches_writeTac (v : Byte) (s : Board) : Touches [Io.tac] true false false s (writeTac v s) := by
  unfold writeTac
  exact Touches.ite (fun _ => (Touches.rawWrite s _).trans (Touches.withTimer _ _)) (fun _ => Touches.rawWrite s _)

theorem touches_writeLcdc (v : Byte) (s : Board) :
    Touches [Io.lcdc, Io.ly, Io.stat, Io.if_] false true false s (writeLcdc v s) := by
  have h := Touches.rawWrite (l := [Io.lcdc, Io.ly, Io.stat, Io.if_]) (tim := false) (vid := true) (snd := false)
    (a := Io.lcdc) s v
  unfold writeLcdc
  exact Touches.ite (fun _ => h.trans (touches_ppuDisable _).mono)
    (fun _ => Touches.ite (fun _ => h.trans (touches_ppuEnable _).mono) (fun _ => h))

theorem touches_writeStat (v : Byte) (s : Board) : Touches [Io.stat] false false false s (writeStat v s) :=
  Touches.rawWrite s _

theorem touches_writeLyc (v : Byte) (s : Board) :
    Touches [Io.lyc, Io.stat, Io.if_] false false false s (writeLyc v s) := by
  have h := Touches.rawWrite (l := [Io.lyc, Io.stat, Io.if_]) (tim := false) (vid := false) (snd := false) (a := Io.lyc) s v
  unfold writeLyc
  exact Touches.ite (fun _ => h.trans (touches_lycCompare _).mono) (fun _ => h)

/-- An APU write touches its register and NR52; a write of NR52 the registers of the block (R406, R407). -/
theorem touches_apuWrite (a : Word) (v : Byte) (s : Board) :
    Touches (a :: Io.nr52 :: if a = Io.nr52 then soundRegisters else []) false false true s (apuWrite a v s) := by
  unfold apuWrite
  refine Touches.ite (fun _ => Touches.rawWrite s v) (fun _ => ?_)
  refine Touches.ite (fun h => ?_) (fun h => ?_)
  · subst h; simpa using (touches_writeNr52 v s).mono (List.subset_cons_self _ _)
  · exact Touches.ite (fun _ => (Touches.rawWrite s v).trans ((touches_apuWriteEffect a v _).mono)) (fun _ => Touches.refl s)

theorem mem_soundRegisters (b : Word) :
    b ∈ soundRegisters ↔ Io.nr10 ≤ b ∧ b ≤ Io.nr51 ∧ b ≠ 0xFF15 ∧ b ≠ 0xFF1F := by
  simp only [soundRegisters, List.mem_cons, List.not_mem_nil, or_false]
  bv_omega

/-- Outside the sound block an APU write leaves every byte (R406, R407). -/
theorem rawRead_apuWrite_other {a b : Word} (v : Byte) (s : Board) (h1 : b ≠ a) (h2 : ¬ (Io.nr10 ≤ b ∧ b ≤ Io.nr52)) :
    rawRead (apuWrite a v s) b = rawRead s b := by
  refine (touches_apuWrite a v s).bytes b ?_
  have h3 : b ≠ Io.nr52 := by rintro rfl; exact h2 (by decide)
  have h4 : b ∉ soundRegisters := fun e => h2 (by rw [mem_soundRegisters] at e; bv_omega)
  simp only [List.mem_cons, not_or]
  refine ⟨h1, h3, ?_⟩
  split
  · exact h4
  · exact List.not_mem_nil

/-! ## The OAM copy (R118) -/

/-- The OAM copy changes OAM, and takes draws. -/
theorem dmaCopyByte_eq (v : Byte) (s : Board) (i : Nat) :
    dmaCopyByte v s i =
      { rawWrite s (0xFE00 + BitVec.ofNat 16 i) (dmaByte s v i) with draws := if v < 0xE0 then s.draws else s.draws + 1 } := by
  unfold dmaCopyByte; split <;> rfl

/-- The fold of the OAM copy keeps everything but `mem` (outside OAM) and `draws`. -/
theorem dmaFold (v : Byte) (l : List Nat) (hl : ∀ i ∈ l, i < 160) (s : Board) :
    let t := l.foldl (dmaCopyByte v) s
    t = { s with mem := t.mem, draws := t.draws } ∧ (s.memWf → t.memWf) ∧ (v < 0xE0 → t.draws = s.draws) ∧
    ∀ a : Word, ¬ (0xFE00 ≤ a ∧ a ≤ 0xFE9F) → rawRead t a = rawRead s a := by
  induction l generalizing s with
  | nil => exact ⟨rfl, id, fun _ => rfl, fun _ _ => rfl⟩
  | cons i l ih =>
    obtain ⟨h1, h2, h3, h4⟩ := ih (fun j hj => hl j (List.mem_cons_of_mem _ hj)) (dmaCopyByte v s i)
    have hi := hl i List.mem_cons_self
    simp only [List.foldl_cons]
    refine ⟨?_, fun w => h2 ?_, fun hv => (h3 hv).trans ?_, fun a ha => (h4 a ha).trans ?_⟩
    · rw [h1, dmaCopyByte_eq]; rfl
    · rw [dmaCopyByte_eq]; exact wf_rawWrite _ _ w
    · rw [dmaCopyByte_eq, if_pos hv]
    · rw [dmaCopyByte_eq]
      refine rawRead_rawWrite_other s _ (fun e => ha ?_)
      subst e
      have hn : (BitVec.ofNat 16 i).toNat = i := by simp only [BitVec.toNat_ofNat]; omega
      simp only [BitVec.le_def, BitVec.toNat_add, hn]
      constructor <;> simp <;> omega

/-- The OAM copy (R118): everything but `mem` and the draws is kept; `mem` changes at DMA and in OAM. -/
theorem writeDma_frame (v : Byte) (s : Board) :
    writeDma v s = { s with mem := (writeDma v s).mem, draws := (writeDma v s).draws } ∧
    (s.memWf → (writeDma v s).memWf) ∧ (v < 0xE0 → (writeDma v s).draws = s.draws) ∧
    ∀ a : Word, a ≠ Io.dma → ¬ (0xFE00 ≤ a ∧ a ≤ 0xFE9F) → rawRead (writeDma v s) a = rawRead s a := by
  obtain ⟨h1, h2, h3, h4⟩ := dmaFold v (List.range 160) (fun i hi => List.mem_range.mp hi) (rawWrite s Io.dma v)
  refine ⟨h1, fun w => h2 (wf_rawWrite _ _ w), h3, fun a hd ha => (h4 a ha).trans (rawRead_rawWrite_other s v hd)⟩

/-! ## What `IoWrite` can do -/

/-- The cases of `IoWrite` (R110): which owner's rule a write of `a` follows, in the order of R110. -/
theorem ioWrite_cases (a : Word) (v : Byte) (s : Board) :
    a = Io.p1 ∧ ioWrite a v s = writeP1 v s ∨ a = Io.div ∧ ioWrite a v s = writeDiv s ∨
    a = Io.tac ∧ ioWrite a v s = writeTac v s ∨
    soundAddress a = true ∧ ioWrite a v s = apuWrite a v s ∨
    a = Io.lcdc ∧ ioWrite a v s = writeLcdc v s ∨ a = Io.stat ∧ ioWrite a v s = writeStat v s ∨
    a = Io.ly ∧ ioWrite a v s = s ∨ a = Io.lyc ∧ ioWrite a v s = writeLyc v s ∨
    a = Io.dma ∧ ioWrite a v s = writeDma v s ∨ a = Io.boot ∧ ioWrite a v s = writeBoot v s ∨
    (a ∉ [Io.p1, Io.div, Io.tac, Io.lcdc, Io.stat, Io.ly, Io.lyc, Io.dma, Io.boot] ∧
      soundAddress a = false) ∧ ioWrite a v s = rawWrite s a v := by
  simp only [ioWrite, List.mem_cons, List.not_mem_nil, or_false, not_or]
  split_ifs <;> simp_all

/-! ## What a checked write can do at all -/

/-- The parts of the board that no rule of the Bus or of a peripheral ever writes: the images, what the header of the
cartridge gives, the parameters. -/
structure SameParts (s t : Board) : Prop where
  bootRom : t.bootRom = s.bootRom
  rom : t.cart.rom = s.cart.rom
  nbanks : t.cart.nbanks = s.cart.nbanks
  ramBanks : t.cart.ramBanks = s.cart.ramBanks
  kind : t.cart.kind = s.cart.kind
  params : t.params = s.params
  hidden : s.bootVisible = false → t.bootVisible = false
  wf : s.memWf → t.memWf
  ramWf : s.cart.ram.imageWf → t.cart.ram.imageWf

theorem SameParts.refl (s : Board) : SameParts s s := ⟨rfl, rfl, rfl, rfl, rfl, rfl, id, id, id⟩

theorem SameParts.trans {s t u : Board} (h : SameParts s t) (k : SameParts t u) : SameParts s u :=
  ⟨k.bootRom.trans h.bootRom, k.rom.trans h.rom, k.nbanks.trans h.nbanks, k.ramBanks.trans h.ramBanks,
    k.kind.trans h.kind, k.params.trans h.params, fun e => k.hidden (h.hidden e), fun w => k.wf (h.wf w),
    fun w => k.ramWf (h.ramWf w)⟩

theorem Touches.sameParts {l : List Word} {tim vid snd : Bool} {s t : Board} (h : Touches l tim vid snd s t) :
    SameParts s t :=
  ⟨h.bootRom, by rw [h.cart], by rw [h.cart], by rw [h.cart], by rw [h.cart], h.params, fun e => h.bootVisible.trans e,
    h.wf, fun w => by rwa [h.cart]⟩

theorem sameParts_rawWrite (s : Board) (a : Word) (v : Byte) : SameParts s (rawWrite s a v) :=
  (Touches.rawWrite (l := [a]) (tim := false) (vid := false) (snd := false) s v).sameParts

theorem sameParts_ioWrite (a : Word) (v : Byte) (s : Board) : SameParts s (ioWrite a v s) := by
  rcases ioWrite_cases a v s with ⟨_, e⟩ | ⟨_, e⟩ | ⟨_, e⟩ | ⟨_, e⟩ | ⟨_, e⟩ | ⟨_, e⟩ | ⟨_, e⟩ | ⟨_, e⟩ | ⟨_, e⟩ |
    ⟨_, e⟩ | ⟨_, e⟩ <;> rw [e]
  · exact (touches_writeP1 v s).sameParts
  · exact (touches_writeDiv s).sameParts
  · exact (touches_writeTac v s).sameParts
  · exact (touches_apuWrite a v s).sameParts
  · exact (touches_writeLcdc v s).sameParts
  · exact (touches_writeStat v s).sameParts
  · exact SameParts.refl s
  · exact (touches_writeLyc v s).sameParts
  · obtain ⟨h, w, _⟩ := writeDma_frame v s
    have hc : (writeDma v s).cart = s.cart := by rw [h]
    exact ⟨by rw [h], by rw [hc], by rw [hc], by rw [hc], by rw [hc], by rw [h],
      fun e => by rw [h]; exact e, w, fun r => by rwa [hc]⟩
  · exact ⟨rfl, rfl, rfl, rfl, rfl, rfl, fun _ => rfl, wf_rawWrite _ _, id⟩
  · exact sameParts_rawWrite s a v

/-- A bank-controller write changes the four bank registers only (R96, R98 to R101), and keeps `bank_lo` from 0. -/
theorem bankWrite_frame (c : Cartridge) (a : Word) (v : Byte) :
    c.bankWrite a v = { c with ramEnable := (c.bankWrite a v).ramEnable, bankLo := (c.bankWrite a v).bankLo,
                               bankHi := (c.bankWrite a v).bankHi, bankMode := (c.bankWrite a v).bankMode } ∧
    (c.bankLo ≠ 0 → (c.bankWrite a v).bankLo ≠ 0) := by
  unfold Cartridge.bankWrite
  split
  · exact ⟨rfl, id⟩
  · split_ifs <;> first
      | exact ⟨rfl, id⟩
      | exact ⟨rfl, fun _ => (by decide : (1 : BitVec 5) ≠ 0)⟩
      | exact ⟨rfl, fun _ => by assumption⟩

/-- A store to external RAM changes the bytes of `cart_ram` only (R67). -/
theorem extRamWrite_frame (s : Board) (a : Word) (v : Byte) :
    extRamWrite s a v = { s with cart := { s.cart with ram := (extRamWrite s a v).cart.ram } } ∧
    (s.cart.ram.imageWf → (extRamWrite s a v).cart.ram.imageWf) := by
  unfold extRamWrite
  split
  · exact ⟨rfl, Memory.sorted_put _ _⟩
  · exact ⟨rfl, id⟩

/-- A checked write keeps the images, the header's facts and the parameters, and the canonical form of every store. -/
theorem sameParts_memWrite (s : Board) (a : Word) (v : Byte) : SameParts s (memWrite s a v) := by
  unfold memWrite
  cases s.region a <;> dsimp only
  · exact SameParts.refl s
  · obtain ⟨h, _⟩ := bankWrite_frame s.cart a v
    rw [h]; exact ⟨rfl, rfl, rfl, rfl, rfl, rfl, id, id, id⟩
  · exact sameParts_rawWrite s _ v
  · obtain ⟨h, w⟩ := extRamWrite_frame s a v
    rw [h]; exact ⟨rfl, rfl, rfl, rfl, rfl, rfl, id, id, w⟩
  · exact sameParts_rawWrite s _ v
  · exact sameParts_rawWrite s _ v
  · exact sameParts_rawWrite s _ v
  · exact SameParts.refl s
  · exact sameParts_ioWrite a v s
  · exact sameParts_rawWrite s _ v

/-! ## Regions -/

/-- Which addresses a region holds (R63). -/
theorem regionOf_bounds (bv : Bool) (a : Word) :
    match regionOf bv a with
    | .boot => bv = true ∧ a ≤ 0x00FF
    | .rom => a ≤ 0x7FFF
    | .vram => 0x8000 ≤ a ∧ a ≤ 0x9FFF
    | .extRam => 0xA000 ≤ a ∧ a ≤ 0xBFFF
    | .wram => 0xC000 ≤ a ∧ a ≤ 0xDFFF
    | .echo => 0xE000 ≤ a ∧ a ≤ 0xFDFF
    | .oam => 0xFE00 ≤ a ∧ a ≤ 0xFE9F
    | .crash => 0xFEA0 ≤ a ∧ a ≤ 0xFEFF
    | .io => 0xFF00 ≤ a ∧ a ≤ 0xFF7F
    | .high => 0xFF80 ≤ a := by
  unfold regionOf
  split_ifs <;> simp only [BitVec.le_def, not_and, Nat.not_le] at * <;> simp_all <;> omega

/-- The region of an address above 0x00FF does not depend on the boot ROM (R63). -/
theorem region_congr {s t : Board} (h : t.bootVisible = s.bootVisible) (a : Word) : t.region a = s.region a := by
  unfold Board.region; rw [h]

/-! ## Reads -/

/-- A read depends on the byte behind it, on the images and on the cartridge only (R70). -/
theorem memRead_congr {s t : Board} {a : Word} (hv : t.bootVisible = s.bootVisible) (hb : t.bootRom = s.bootRom)
    (hc : t.cart = s.cart) (hd : s.region a = .crash → t.draws = s.draws)
    (hr : s.region a ≠ .echo → rawRead t a = rawRead s a)
    (he : s.region a = .echo → rawRead t (a - 0x2000) = rawRead s (a - 0x2000)) : memRead t a = memRead s a := by
  unfold memRead
  rw [region_congr hv]
  cases h : s.region a <;> simp_all [bootByte]

/-- Reading after a change at `l`: outside `l` every byte reads as before. -/
theorem Touches.memRead {l : List Word} {tim vid snd : Bool} {s t : Board} (h : Touches l tim vid snd s t) {a : Word}
    (ha : s.region a ≠ .echo → a ∉ l) (he : s.region a = .echo → a - 0x2000 ∉ l) :
    Machine.memRead t a = Machine.memRead s a :=
  memRead_congr h.bootVisible h.bootRom h.cart (fun _ => h.draws) (fun e => h.bytes a (ha e)) (fun e => h.bytes _ (he e))

/-! ## Stores outside the I/O page -/

/-- `t` has the I/O registers, the peripherals and the buttons of `s`. -/
structure SameIo (s t : Board) : Prop where
  bytes : ∀ b : Word, 0xFF00 ≤ b → b ≤ 0xFF7F → rawRead t b = rawRead s b
  timer : t.timer = s.timer
  ppu : t.ppu = s.ppu
  apu : t.apu = s.apu
  buttons : t.buttons = s.buttons
  params : t.params = s.params

theorem sameIo_rawWrite (s : Board) {a : Word} (v : Byte) (h : ¬ (0xFF00 ≤ a ∧ a ≤ 0xFF7F)) : SameIo s (rawWrite s a v) :=
  ⟨fun _ h1 h2 => rawRead_rawWrite_other s v (fun e => h (e ▸ ⟨h1, h2⟩)), rfl, rfl, rfl, rfl, rfl⟩

/-- A checked write is an I/O write, or leaves the I/O registers and the peripherals alone (R80). -/
theorem memWrite_cases (s : Board) (a : Word) (v : Byte) :
    (s.region a = .io ∧ memWrite s a v = ioWrite a v s) ∨ (s.region a ≠ .io ∧ SameIo s (memWrite s a v)) := by
  have hb := regionOf_bounds s.bootVisible a
  unfold memWrite
  cases hr : s.region a <;> rw [show regionOf s.bootVisible a = _ from hr] at hb <;> dsimp only at hb ⊢
  · exact .inr ⟨by simp, fun _ _ _ => rfl, rfl, rfl, rfl, rfl, rfl⟩
  · exact .inr ⟨by simp, fun _ _ _ => rfl, rfl, rfl, rfl, rfl, rfl⟩
  · exact .inr ⟨by simp, sameIo_rawWrite s v (by bv_omega)⟩
  · refine .inr ⟨by simp, ?_⟩
    rw [(extRamWrite_frame s a v).1]
    exact ⟨fun _ _ _ => rfl, rfl, rfl, rfl, rfl, rfl⟩
  · exact .inr ⟨by simp, sameIo_rawWrite s v (by bv_omega)⟩
  · exact .inr ⟨by simp, sameIo_rawWrite s v (by bv_omega)⟩
  · exact .inr ⟨by simp, sameIo_rawWrite s v (by bv_omega)⟩
  · exact .inr ⟨by simp, fun _ _ _ => rfl, rfl, rfl, rfl, rfl, rfl⟩
  · exact .inl ⟨rfl, rfl⟩
  · exact .inr ⟨by simp, sameIo_rawWrite s v (by bv_omega)⟩

end Sys2Proof.Machine
end

