-- ==== Sys2Proof/Laws/Exec.lean ====
section
/-! SUPPORT. `exec` by mnemonic form: one equation for all rows of a form, so that a claim about an instruction unfolds
64 forms and never 512 arms. -/

namespace Sys2Proof.Machine

/-- The shared operation of each form. -/
def runForm (f : Form) (s : State) : Result :=
  match f with
  | .ldRegReg dst src => ldRegReg dst src s
  | .ldRegN8 dst n8 => ldRegN8 dst n8 s
  | .ldRegMhl dst => ldRegMhl dst s
  | .ldMhlReg src => ldMhlReg src s
  | .ldMhlN8 n8 => ldMhlN8 n8 s
  | .ldAMbc => ldAFromBc s
  | .ldAMde => ldAFromDe s
  | .ldMbcA => ldBcFromA s
  | .ldMdeA => ldDeFromA s
  | .ldAMa16 a16 => ldAFromA16 a16 s
  | .ldMa16A a16 => ldA16FromA a16 s
  | .ldMhliA => ldHlStepFromA 1 s
  | .ldMhldA => ldHlStepFromA (-1) s
  | .ldAMhli => ldAFromHlStep 1 s
  | .ldAMhld => ldAFromHlStep (-1) s
  | .ldhMa8A a8 => ldhFromA a8 s
  | .ldhAMa8 a8 => ldhToA a8 s
  | .ldMcA => ldHighCFromA s
  | .ldAMc => ldAFromHighC s
  | .ldR16N16 p n16 => ldR16N16 p n16 s
  | .ldMa16Sp a16 => ldA16Sp a16 s
  | .ldSpHl => ldSpHl s
  | .ldHlSpE8 e8 => ldHlSpE8 e8 s
  | .push p => pushPair p s
  | .pop p => popPair p s
  | .aluReg op r => aluReg op r s
  | .aluMhl op => aluMhl op s
  | .aluN8 op n8 => aluN8 op n8 s
  | .incReg r => incReg r s
  | .incMhl => incMhl s
  | .decReg r => decReg r s
  | .decMhl => decMhl s
  | .daa => daa s
  | .cpl => cpl s
  | .scf => scf s
  | .ccf => ccf s
  | .addHlR16 p => addHlR16 p s
  | .incR16 p => incR16 p s
  | .decR16 p => decR16 p s
  | .addSpE8 e8 => addSpE8 e8 s
  | .rlca => rlca s
  | .rrca => rrca s
  | .rla => rla s
  | .rra => rra s
  | .shiftReg op r => shiftReg op r s
  | .shiftMhl op => shiftMhl op s
  | .bitReg bit r => bitReg bit r s
  | .bitMhl bit => bitMhl bit s
  | .resReg bit r => resReg bit r s
  | .resMhl bit => resMhl bit s
  | .setReg bit r => setBitReg bit r s
  | .setMhl bit => setBitMhl bit s
  | .jp a16 => jp a16 s
  | .jpCc cc a16 => jpCc cc a16 s
  | .jpHl => jpHl s
  | .jr e8 => jr e8 s
  | .jrCc cc e8 => jrCc cc e8 s
  | .call a16 => call a16 s
  | .callCc cc a16 => callCc cc a16 s
  | .ret => ret s
  | .retCc cc => retCc cc s
  | .reti => reti s
  | .rst t => rst t s
  | .nop => nop s
  | .halt => halt s
  | .stop _ => stop s
  | .di => di s
  | .ei => ei s
  | .prefixCb opcode2 => runCb opcode2 s
  | .illegal op => raiseIllegalOpcode op s

/-- Every row runs its form. -/
theorem exec_form (i : Instr) (s : State) : exec i s = runForm i.form s := by cases i <;> rfl

/-- The instruction of a form, run. -/
theorem exec_of_form {i : Instr} {f : Form} (h : i.form = f) (s : State) : exec i s = runForm f s := h ▸ exec_form i s

/-- The bytes of a form. -/
theorem encode_of_form {i : Instr} {f : Form} (h : i.form = f) : encode i = f.encode := h ▸ rfl

end Sys2Proof.Machine
end

