-- ==== Sys2Proof/Laws/Ops.lean ====
section
/-! SUPPORT. The shared operations of the CPU, one lemma each that says everything the operation can do, and what an
instruction and a step can do to the board at all. -/

namespace Sys2Proof.Machine

/-! ## The stack (R28, R207, R208) -/

/-- A push: `SP` goes down by two, the high byte is stored first, at the higher address; nothing else. -/
theorem push16_eq (v : Word) (s : State) :
    push16 v s =
      { s with regs := { s.regs with sp := s.regs.sp - 2 },
               board := memWrite (memWrite s.board (s.regs.sp - 1) (hiByte v)) (s.regs.sp - 2) (loByte v) } := by
  have h : s.regs.sp - 1 - 1 = s.regs.sp - 2 := by bv_omega
  simp only [push16, pushByte, busWrite, State.setSp, h]

/-- A pop: both bytes read, `SP` up by two; nothing else. -/
theorem afterPop_eq (s : State) :
    afterPop s =
      { s with regs := { s.regs with sp := s.regs.sp + 2 },
               board := afterMemRead (afterMemRead s.board s.regs.sp) (s.regs.sp + 1) } := rfl

/-- Interrupt entry (R333). -/
theorem interruptEntry_eq (pending : Byte) (s : State) :
    interruptEntry pending s =
      { s with
        regs := { s.regs with sp := s.regs.sp - 2, pc := interruptVector (lowestPending pending) }
        ctl := { s.ctl with haltBug := false, ime := false, imeSched := false }
        clock := s.clock + 20
        board := memWrite (memWrite
          (rawWrite s.board Io.if_ (rawRead s.board Io.if_ &&& ~~~(bitMask (lowestPending pending))))
          (s.regs.sp - 1) (hiByte (interruptReturn s))) (s.regs.sp - 2) (loByte (interruptReturn s)) } := by
  simp only [interruptEntry, push16_eq, State.setPc]

/-- The return from an interrupt (R300, R335). -/
theorem returnFromInterrupt_eq (s : State) :
    returnFromInterrupt s =
      { s with
        regs := { s.regs with sp := s.regs.sp + 2, pc := popValue s }
        ctl := { s.ctl with ime := true, imeSched := false }
        board := afterMemRead (afterMemRead s.board s.regs.sp) (s.regs.sp + 1) } := rfl

/-! ## What the CPU can do to the board -/

/-- The rules of `IoWrite` that STOP and interrupt entry use directly are writes of the Bus (R80, R312, R333). -/
theorem memWrite_div (s : Board) (v : Byte) : memWrite s Io.div v = writeDiv s := by
  have h : s.region Io.div = .io := by unfold Board.region regionOf; cases s.bootVisible <;> decide
  simp only [memWrite, h]; rfl

theorem memWrite_if (s : Board) (v : Byte) : memWrite s Io.if_ v = rawWrite s Io.if_ v := by
  have h : s.region Io.if_ = .io := by unfold Board.region regionOf; cases s.bootVisible <;> decide
  simp only [memWrite, h]; rfl

/-- What the CPU can do to the board: reads and checked writes, in some order (R12). -/
inductive Reaches (s : Board) : Board → Prop where
  | refl : Reaches s s
  | read {t : Board} (a : Word) : Reaches s t → Reaches s (afterMemRead t a)
  | write {t : Board} (a : Word) (v : Byte) : Reaches s t → Reaches s (memWrite t a v)

namespace Reaches

variable {s t u : Board}

theorem trans (h : Reaches s t) (k : Reaches t u) : Reaches s u := by
  induction k with
  | refl => exact h
  | read a _ ih => exact ih.read a
  | write a v _ ih => exact ih.write a v

theorem div (h : Reaches s t) : Reaches s (writeDiv t) := memWrite_div t 0 ▸ h.write Io.div 0

theorem ack (h : Reaches s t) (v : Byte) : Reaches s (rawWrite t Io.if_ v) := memWrite_if t v ▸ h.write Io.if_ v

theorem push (h : Reaches s t) {x : State} (v : Word) (e : x.board = t) : Reaches s (push16 v x).board := by
  rw [push16_eq, e]; exact (h.write _ _).write _ _

end Reaches

/-! ## Updates of the families that reach the register file only -/

@[simp] theorem aluApply_ctl (op : AluOp) (x : Byte) (s : State) : (aluApply op x s).ctl = s.ctl := by cases op <;> rfl
@[simp] theorem aluApply_clock (op : AluOp) (x : Byte) (s : State) : (aluApply op x s).clock = s.clock := by cases op <;> rfl
@[simp] theorem aluApply_board (op : AluOp) (x : Byte) (s : State) : (aluApply op x s).board = s.board := by cases op <;> rfl
@[simp] theorem aluApply_hostMoves (op : AluOp) (x : Byte) (s : State) : (aluApply op x s).hostMoves = s.hostMoves := by
  cases op <;> rfl

/-- The bytes of a prefixed instruction (R155, R315): the prefix row runs the row its second byte selects. -/
theorem runCb_eq (opcode2 : Byte) : ∃ f : Form,
    (∀ s, runCb opcode2 s = runForm f s) ∧
    ((∃ op r, f = .shiftReg op r) ∨ (∃ op, f = .shiftMhl op) ∨ (∃ b r, f = .bitReg b r) ∨ (∃ b, f = .bitMhl b) ∨
      (∃ b r, f = .resReg b r) ∨ (∃ b, f = .resMhl b) ∨ (∃ b r, f = .setReg b r) ∨ ∃ b, f = .setMhl b) := by
  unfold runCb
  cases h : Reg8.ofCode (opcode2.extractLsb' 0 3) with
  | some r =>
    by_cases h0 : opcode2.extractLsb' 6 2 = 0
    · exact ⟨.shiftReg (ShiftOp.ofCode (opcode2.extractLsb' 3 3)) r, fun _ => if_pos h0, by simp⟩
    · by_cases h1 : opcode2.extractLsb' 6 2 = 1
      · exact ⟨.bitReg (opcode2.extractLsb' 3 3) r, fun _ => (if_neg h0).trans (if_pos h1), by simp⟩
      · by_cases h2 : opcode2.extractLsb' 6 2 = 2
        · exact ⟨.resReg (opcode2.extractLsb' 3 3) r, fun _ => (if_neg h0).trans ((if_neg h1).trans (if_pos h2)), by simp⟩
        · exact ⟨.setReg (opcode2.extractLsb' 3 3) r, fun _ => (if_neg h0).trans ((if_neg h1).trans (if_neg h2)), by simp⟩
  | none =>
    by_cases h0 : opcode2.extractLsb' 6 2 = 0
    · exact ⟨.shiftMhl (ShiftOp.ofCode (opcode2.extractLsb' 3 3)), fun _ => if_pos h0, by simp⟩
    · by_cases h1 : opcode2.extractLsb' 6 2 = 1
      · exact ⟨.bitMhl (opcode2.extractLsb' 3 3), fun _ => (if_neg h0).trans (if_pos h1), by simp⟩
      · by_cases h2 : opcode2.extractLsb' 6 2 = 2
        · exact ⟨.resMhl (opcode2.extractLsb' 3 3), fun _ => (if_neg h0).trans ((if_neg h1).trans (if_pos h2)), by simp⟩
        · exact ⟨.setMhl (opcode2.extractLsb' 3 3), fun _ => (if_neg h0).trans ((if_neg h1).trans (if_neg h2)), by simp⟩

/-! ## What an instruction can do -/

/-- What every completed instruction obeys: the board is reached through the Bus, the host's schedule stays, the fetch's
HALT bug is consumed unless a HALT sets it again, a fault record is never made, and 4 to 24 cycles pass (R12, R38, R487). -/
structure Did (s t : State) : Prop where
  board : Reaches s.board t.board
  hostMoves : t.hostMoves = s.hostMoves
  faulted : t.ctl.faulted = s.ctl.faulted
  clock : s.clock + 4 ≤ t.clock ∧ t.clock ≤ s.clock + 24
  flags : s.regs.f &&& 0x0F = 0 → t.regs.f &&& 0x0F = 0

theorem packFlags_low (z n h c : Bool) : packFlags z n h c &&& 0x0F = 0 := (packFlags_bits z n h c).2.2.2.2

theorem and_f0_low (v : Byte) : v &&& 0xF0 &&& 0x0F = 0 := by rw [BitVec.and_assoc]; simp

@[simp] theorem aluApply_flags (op : AluOp) (x : Byte) (s : State) : (aluApply op x s).regs.f &&& 0x0F = 0 := by
  cases op <;> exact packFlags_low _ _ _ _

theorem setReg16_f (s : State) (p : Reg16) (v : Word) : (s.setReg16 p v).regs.f = s.regs.f := by cases p <;> rfl

theorem setReg16s_low (s : State) (p : Reg16s) (v : Word) (h : s.regs.f &&& 0x0F = 0) :
    (s.setReg16s p v).regs.f &&& 0x0F = 0 := by
  cases p
  · exact h
  · exact h
  · exact h
  · exact and_f0_low _

theorem did_runForm {f : Form} {s t : State} (hp : ∀ op, f ≠ .prefixCb op) (h : runForm f s = .next t) : Did s t := by
  cases f
  case prefixCb => exact absurd rfl (hp _)
  case halt =>
    simp only [runForm, halt] at h
    split at h <;> cases h <;> exact ⟨.refl, rfl, rfl, by simp, id⟩
  case jpCc | jrCc =>
    simp only [runForm, jpCc, jrCc] at h
    split at h <;> cases h <;> exact ⟨.refl, rfl, rfl, by simp [State.jumpBy], id⟩
  case retCc =>
    simp only [runForm, retCc, State.returnTo] at h
    split at h <;> cases h
    · exact ⟨(Reaches.refl.read _).read _, rfl, rfl, by simp [afterPop], id⟩
    · exact ⟨.refl, rfl, rfl, by simp, id⟩
  case callCc =>
    simp only [runForm, callCc, State.callTo, push16_eq] at h
    split at h <;> cases h
    · exact ⟨(Reaches.refl.write _ _).write _ _, rfl, rfl, by simp, id⟩
    · exact ⟨.refl, rfl, rfl, by simp, id⟩
  case illegal => cases h
  all_goals
    simp only [runForm, ldRegReg, ldRegN8, ldRegMhl, ldMhlReg, ldMhlN8, ldAFromBc, ldAFromDe, ldBcFromA, ldDeFromA,
      ldAFromA16, ldA16FromA, ldHlStepFromA, ldAFromHlStep, ldhFromA, ldhToA, ldHighCFromA, ldAFromHighC, loadReg,
      ldR16N16, ldA16Sp, ldSpHl, ldHlSpE8, pushPair, popPair, aluReg, aluMhl, aluN8, incReg, incMhl, decReg, decMhl,
      State.incFlags, State.decFlags, State.shiftFlags, State.bitFlags, State.jumpBy, State.callTo, State.returnTo,
      daa, cpl, scf, ccf, addHlR16, incR16, decR16, addSpE8, rlca, rrca, rla, rra, rotateA, shiftReg, shiftMhl, bitReg,
      bitMhl, resReg, resMhl, setBitReg, setBitMhl, jp, jpHl, jr, call, ret, reti, rst, nop, stop, di, ei, push16_eq,
      afterPop_eq, returnFromInterrupt_eq] at h
    cases h
    refine ⟨?_, ?_, ?_, ?_, ?_⟩
    · simp
      repeat (first | exact Reaches.refl | apply Reaches.div | apply Reaches.write | apply Reaches.read)
    · simp
    · simp
    · simp
    · intro hf
      first
        | exact hf
        | exact packFlags_low _ _ _ _
        | exact aluApply_flags _ _ _
        | exact setReg16s_low _ _ _ hf
        | simpa [setReg16_f] using hf

theorem did_exec {i : Instr} {s t : State} (h : exec i s = .next t) : Did s t := by
  rw [exec_form] at h
  by_cases hp : ∃ op, i.form = .prefixCb op
  · obtain ⟨op, hp⟩ := hp
    obtain ⟨f, hf, hk⟩ := runCb_eq op
    rw [hp, show runForm (.prefixCb op) s = runForm f s from hf s] at h
    refine did_runForm (fun op e => ?_) h
    subst e; simp at hk
  · exact did_runForm (fun op e => hp ⟨op, e⟩) h

end Sys2Proof.Machine
end

