-- ==== Sys2Proof/Laws/Step.lean ====
section
/-! SUPPORT. The step, said once: the ways a step can go, and the induction for a property of the board
(spec/60_exceptions.md R330 to R332, spec/00_scope.md R7). -/

namespace Sys2Proof.Machine

/-! ## The CPU step (R330) -/

theorem reaches_fetch (s : State) : Reaches s.board (fetch s).2.board ∧
    (fetch s).2 = { s with board := (fetch s).2.board } := by
  unfold fetch
  dsimp only
  split_ifs
  · exact ⟨Reaches.refl.read _, rfl⟩
  · exact ⟨(Reaches.refl.read _).read _, rfl⟩
  · exact ⟨((Reaches.refl.read _).read _).read _, rfl⟩

/-- The three ways a CPU step can go on: idle, interrupt entry, one instruction (R330 to R332). -/
theorem cpuStep_cases {s t : State} (h : cpuStep s = .next t) :
    (s.ctl.halted = true ∧ pendingInterrupts s.board = 0 ∧ t = idle s) ∨
    (s.ctl.ime = true ∧ pendingInterrupts s.board ≠ 0 ∧
      t = interruptEntry (pendingInterrupts s.board) (wake s)) ∨
    (¬ (s.ctl.halted = true ∧ pendingInterrupts s.board = 0) ∧ ¬ (s.ctl.ime = true ∧ pendingInterrupts s.board ≠ 0) ∧
      ∃ u, exec (fetch (wake s)).1 (fetch (wake s)).2 = .next u ∧
        t = enableAfter s.ctl.imeSched (fetch (wake s)).1 u) := by
  unfold cpuStep at h
  dsimp only at h
  split at h
  · rename_i c; cases h; exact .inl ⟨c.1, c.2, rfl⟩
  · rename_i c1
    split at h
    · rename_i c; cases h; exact .inr (.inl ⟨c.1, c.2, rfl⟩)
    · rename_i c2
      unfold runInstruction at h
      dsimp only at h
      split at h
      · rename_i u hu; cases h; exact .inr (.inr ⟨c1, c2, u, hu, rfl⟩)
      · cases h
      · cases h

@[simp] theorem enableAfter_board (e : Bool) (i : Instr) (s : State) : (enableAfter e i s).board = s.board := by
  cases e <;> rfl
@[simp] theorem enableAfter_regs (e : Bool) (i : Instr) (s : State) : (enableAfter e i s).regs = s.regs := by cases e <;> rfl
@[simp] theorem enableAfter_clock (e : Bool) (i : Instr) (s : State) : (enableAfter e i s).clock = s.clock := by
  cases e <;> rfl
@[simp] theorem enableAfter_hostMoves (e : Bool) (i : Instr) (s : State) :
    (enableAfter e i s).hostMoves = s.hostMoves := by cases e <;> rfl
@[simp] theorem enableAfter_faulted (e : Bool) (i : Instr) (s : State) :
    (enableAfter e i s).ctl.faulted = s.ctl.faulted := by cases e <;> rfl

/-- What a completed CPU step obeys, whichever way it goes. -/
theorem did_cpuStep {s t : State} (h : cpuStep s = .next t) : Did s t := by
  rcases cpuStep_cases h with ⟨_, _, rfl⟩ | ⟨_, _, rfl⟩ | ⟨_, _, u, hu, rfl⟩
  · exact ⟨.refl, rfl, rfl, by simp [idle], id⟩
  · rw [interruptEntry_eq]
    exact ⟨((Reaches.refl.ack _).write _ _).write _ _, rfl, rfl, by simp [wake], id⟩
  · obtain ⟨hr, hf⟩ := reaches_fetch (wake s)
    have d := did_exec hu
    rw [hf] at d
    exact ⟨by rw [enableAfter_board]; exact hr.trans d.board, by simpa [wake] using d.hostMoves, by simpa [wake] using d.faulted,
      by simpa [wake] using d.clock, by simpa [wake] using d.flags⟩

/-! ## The machine's step (R7, R35, R312) -/

/-- The two ways a step can go on: a stopped machine waits while the schedule lasts; otherwise one system step. -/
theorem step_cases {s t : State} (h : step s = .next t) :
    s.ctl.faulted = none ∧
    ((hostTurn s).ctl.stopped = true ∧ s.hostMoves ≠ [] ∧ t = hostTurn s ∨
      (hostTurn s).ctl.stopped = false ∧ ∃ u, cpuStep (hostTurn s) = .next u ∧
        t = stepPeripherals (u.clock - (hostTurn s).clock) u) := by
  unfold step machineStep at h
  split at h
  · cases h
  · rename_i hf
    refine ⟨hf, ?_⟩
    dsimp only at h
    split at h
    · rename_i hst
      split at h
      · cases h
      · rename_i hm; cases h; exact .inl ⟨hst, by simp [hm], rfl⟩
    · rename_i hst
      unfold systemStep at h
      split at h
      · rename_i u hu; cases h; exact .inr ⟨by simpa using hst, u, hu, rfl⟩
      · cases h
      · cases h

@[simp] theorem setButtons_hostMoves (b : Byte) (s : State) : (setButtons b s).hostMoves = s.hostMoves := rfl
@[simp] theorem setButtons_regs (b : Byte) (s : State) : (setButtons b s).regs = s.regs := rfl
@[simp] theorem setButtons_clock (b : Byte) (s : State) : (setButtons b s).clock = s.clock := rfl

/-- The host's moves change the board by presses of the buttons, and may end a stop; nothing else. -/
theorem setButtonsAll_frame (bs : List Byte) (s : State) :
    (setButtonsAll bs s).board = bs.foldl (fun t b => pressButtons b t) s.board ∧
    (setButtonsAll bs s).regs = s.regs ∧ (setButtonsAll bs s).clock = s.clock ∧
    (setButtonsAll bs s).hostMoves = s.hostMoves ∧
    (setButtonsAll bs s).ctl = { s.ctl with stopped := (setButtonsAll bs s).ctl.stopped } ∧
    ((setButtonsAll bs s).ctl.stopped = true → s.ctl.stopped = true) := by
  induction bs generalizing s with
  | nil => exact ⟨rfl, rfl, rfl, rfl, rfl, id⟩
  | cons b bs ih =>
    obtain ⟨h1, h2, h3, h4, h5, h6⟩ := ih (setButtons b s)
    refine ⟨h1, h2, h3, h4, h5, fun h => ?_⟩
    have := h6 h
    simp only [setButtons, Bool.and_eq_true] at this
    exact this.1

/-- The host's turn: presses of the buttons; no register, no clock. -/
theorem hostTurn_frame (s : State) :
    (∃ bs : List Byte, (hostTurn s).board = bs.foldl (fun t b => pressButtons b t) s.board) ∧
    (hostTurn s).regs = s.regs ∧ (hostTurn s).clock = s.clock ∧
    (hostTurn s).ctl = { s.ctl with stopped := (hostTurn s).ctl.stopped } := by
  unfold hostTurn
  split
  · exact ⟨⟨[], rfl⟩, rfl, rfl, rfl⟩
  · rename_i bs ms _
    obtain ⟨h1, h2, h3, _, h5, _⟩ := setButtonsAll_frame bs { s with hostMoves := ms }
    exact ⟨⟨bs, h1⟩, h2, h3, h5⟩

/-! ## Properties of the board -/

/-- Kept by everything that can happen to the board: reads, checked writes, the host's buttons, the peripherals'
catching up (R12, R7). -/
structure Kept (P : Board → Prop) : Prop where
  read : ∀ s a, P s → P (afterMemRead s a)
  write : ∀ s a v, P s → P (memWrite s a v)
  press : ∀ s b, P s → P (pressButtons b s)
  timer : ∀ s n, P s → P (timerStep n s)
  ppu : ∀ s n, P s → P (ppuStep n s)
  apu : ∀ s n, P s → P (apuStep n s)

theorem Reaches.kept {P : Board → Prop} (k : Kept P) {s t : Board} (h : Reaches s t) (hs : P s) : P t := by
  induction h with
  | refl => exact hs
  | read a _ ih => exact k.read _ a ih
  | write a v _ ih => exact k.write _ a v ih

theorem Kept.presses {P : Board → Prop} (k : Kept P) (bs : List Byte) {s : Board} (hs : P s) :
    P (bs.foldl (fun t b => pressButtons b t) s) := by
  induction bs generalizing s with
  | nil => exact hs
  | cons b bs ih => exact ih (k.press s b hs)

/-- Such a property is kept by every step. -/
theorem Kept.step {P : Board → Prop} (k : Kept P) {s t : State} (h : Machine.step s = .next t) (hs : P s.board) :
    P t.board := by
  have hu : P (hostTurn s).board := by
    obtain ⟨bs, e⟩ := (hostTurn_frame s).1
    rw [e]
    exact k.presses bs hs
  rcases (step_cases h).2 with ⟨_, _, rfl⟩ | ⟨_, u, hc, rfl⟩
  · exact hu
  · exact k.apu _ _ (k.ppu _ _ (k.timer _ _ ((did_cpuStep hc).board.kept k hu)))

/-- A property of the I/O registers and the peripherals: stores outside the I/O page cannot break it. -/
theorem Kept.of_io {P : Board → Prop} (same : ∀ s t, SameIo s t → P s → P t) (io : ∀ s a v, P s → P (ioWrite a v s))
    (press : ∀ s b, P s → P (pressButtons b s)) (timer : ∀ s n, P s → P (timerStep n s))
    (ppu : ∀ s n, P s → P (ppuStep n s)) (apu : ∀ s n, P s → P (apuStep n s)) : Kept P where
  read s a h := same s _ ⟨fun _ _ _ => by simp [rawRead], by simp, by simp, by simp, by simp, by simp⟩ h
  write s a v h := by
    rcases memWrite_cases s a v with ⟨_, e⟩ | ⟨_, k⟩
    · rw [e]; exact io s a v h
    · exact same s _ k h
  press := press
  timer := timer
  ppu := ppu
  apu := apu

/-! ## The parts no step changes -/

theorem touches_pressButtons (b : Byte) (s : Board) :
    Touches [Io.p1, Io.if_] false false false { s with buttons := b } (pressButtons b s) := by
  unfold pressButtons
  have h := Touches.rawWrite (l := [Io.p1, Io.if_]) (tim := false) (vid := false) (snd := false) (a := Io.p1)
    { s with buttons := b } (p1Value (rawRead s Io.p1) b)
  exact Touches.ite (fun _ => h.trans (touches_requestInterrupt _ _).mono) (fun _ => h)

/-- The images, the header's facts and the parameters stay through a step, and every store keeps its canonical form. -/
theorem kept_sameParts (s0 : Board) : Kept (SameParts s0) where
  read s a h := h.trans ⟨by simp, by simp, by simp, by simp, by simp, by simp, by simp, (afterMemRead_memWf s a).mpr, by simp⟩
  write s a v h := h.trans (sameParts_memWrite s a v)
  press s b h := h.trans (SameParts.trans (t := { s with buttons := b }) ⟨rfl, rfl, rfl, rfl, rfl, rfl, id, id, id⟩ (touches_pressButtons b s).sameParts)
  timer s n h := h.trans (touches_timerStep n s).sameParts
  ppu s n h := h.trans (touches_ppuStep n s).sameParts
  apu s n h := h.trans (touches_apuStep n s).sameParts

end Sys2Proof.Machine
end

