-- ==== Sys2Proof/Laws/HostMoves.lean ====
section
/-! SUPPORT. The host's other moves, said once: where `RunFrame` hands the machine back (spec/70_reset_and_hazards.md
R465). -/

namespace Sys2Proof.Machine

/-- One step of a run that goes on. -/
theorem run_succ {k : Nat} {s t : Sys2Proof.core.State} (h : Sys2Proof.core.step s = .next t) :
    Sys2Proof.core.run (k + 1) s = Sys2Proof.core.run k t := by
  rw [Host.Core.run, h]

/-- `RunFrame` is a run of steps (R465): it hands back the state after `k` of them, within the limit,
and says why. -/
theorem runFrame_cases {limit : Nat} {s t : State} {e : FrameEnd} (h : runFrame limit s = .next (e, t)) :
    ∃ k ≤ limit, Sys2Proof.core.run k s = .next t ∧
      match e with
      | .frameDone => 0 < k ∧ t.board.ppu.frames ≠ s.board.ppu.frames
      | .stopped => t.ctl.stopped = true ∧ t.board.ppu.frames = s.board.ppu.frames
      | .hostStop => k = limit ∧ t.ctl.stopped = false ∧ t.board.ppu.frames = s.board.ppu.frames := by
  induction limit generalizing s with
  | zero =>
    rw [runFrame] at h
    cases hs : s.ctl.stopped <;> rw [hs] at h <;> cases h
    · exact ⟨0, le_rfl, rfl, rfl, hs, rfl⟩
    · exact ⟨0, le_rfl, rfl, hs, rfl⟩
  | succ n ih =>
    rw [runFrame] at h
    split at h
    · rename_i hs
      cases h
      exact ⟨0, Nat.zero_le _, rfl, hs, rfl⟩
    · split at h
      · rename_i u hu
        have one (k : Nat) : Sys2Proof.core.run (k + 1) s = Sys2Proof.core.run k u := run_succ hu
        split at h
        · rename_i hf
          cases h
          exact ⟨1, Nat.le_add_left _ _, one 0, Nat.one_pos, hf⟩
        · rename_i hf
          obtain ⟨k, hk, hr, he⟩ := ih h
          refine ⟨k + 1, Nat.succ_le_succ hk, (one k).trans hr, ?_⟩
          have hf : u.board.ppu.frames = s.board.ppu.frames := by simpa using hf
          rw [hf] at he
          cases e
          · exact ⟨Nat.succ_pos _, he.2⟩
          · exact he
          · exact ⟨congrArg (· + 1) he.1, he.2⟩
      · cases h
      · cases h

end Sys2Proof.Machine
end

