-- ==== Sys2Proof/Laws/Sound.lean ====
section
/-! SUPPORT. The APU's shared operations, said once: what each leaves in the hidden state (spec/60_exceptions.md R407 to
R421). What they leave in the registers is in Laws/Touches.lean. -/

namespace Sys2Proof.Machine

/-! ## The parts of a channel -/

theorem Apu.channel_setChannel (p : Apu) (ch c : Chan) (x : Channel) :
    (p.setChannel ch x).channel c = if c = ch then x else p.channel c := by cases ch <;> cases c <;> rfl

@[simp] theorem Apu.setChannel_channel (p : Apu) (ch : Chan) : p.setChannel ch (p.channel ch) = p := by cases ch <;> rfl

@[simp] theorem Apu.setChannel_setChannel (p : Apu) (ch : Chan) (x y : Channel) :
    (p.setChannel ch x).setChannel ch y = p.setChannel ch y := by cases ch <;> rfl

@[simp] theorem mapApu_apu (f : Apu → Apu) (s : Board) : (mapApu f s).apu = f s.apu := rfl
@[simp] theorem mapApu_rawRead (f : Apu → Apu) (s : Board) (a : Word) : rawRead (mapApu f s) a = rawRead s a := rfl

theorem setEnabled_apu (ch : Chan) (b : Bool) (s : Board) :
    (setEnabled ch b s).apu = s.apu.setChannel ch { s.apu.channel ch with en := b } := rfl

theorem setLen_apu (ch : Chan) (n : Nat) (s : Board) :
    (setLen ch n s).apu = s.apu.setChannel ch { s.apu.channel ch with len := n } := rfl

theorem setTimer_apu (ch : Chan) (n : Nat) (s : Board) :
    (setTimer ch n s).apu = s.apu.setChannel ch { s.apu.channel ch with timer := n } := rfl

/-- `SetEnabled` shows the flag in NR52 (R408). -/
theorem setEnabled_nr52 (ch : Chan) (b : Bool) (s : Board) : (rawRead (setEnabled ch b s) Io.nr52).getLsbD ch.bit = b := by
  unfold setEnabled
  dsimp only
  rw [rawRead_rawWrite_same]
  cases b <;> cases ch <;> simp [Chan.bit]

/-! ## Power off (R407) -/

theorem rawRead_clearRegisters (l : List Word) (s : Board) (a : Word) :
    rawRead (clearRegisters l s) a = if a ∈ l then 0 else rawRead s a := by
  induction l generalizing s with
  | nil => rfl
  | cons b l ih =>
    show rawRead (clearRegisters l (rawWrite s b 0)) a = _
    rw [ih, rawRead_rawWrite]
    by_cases h1 : a ∈ l
    · simp [h1]
    · by_cases h2 : a = b <;> simp [h1, h2]

@[simp] theorem clearRegisters_apu (l : List Word) (s : Board) : (clearRegisters l s).apu = s.apu :=
  (touches_clearRegisters l s).apu rfl

/-! ## One length tick (R411) -/

theorem lengthTick_apu (ch : Chan) (s : Board) :
    (lengthTick ch s).apu = s.apu.setChannel ch
      { s.apu.channel ch with
        len := if (rawRead s ch.nrx4).getLsbD 6 = true then (s.apu.channel ch).len - 1 else (s.apu.channel ch).len
        en := if (rawRead s ch.nrx4).getLsbD 6 = true ∧ (s.apu.channel ch).len = 1 then false
          else (s.apu.channel ch).en } := by
  unfold lengthTick
  dsimp only
  by_cases h6 : (rawRead s ch.nrx4).getLsbD 6 = true
  · by_cases h0 : 0 < (s.apu.channel ch).len
    · rw [if_pos ⟨h6, h0⟩, if_pos h6]
      by_cases h1 : (s.apu.channel ch).len = 1
      · rw [if_pos (by omega), if_pos ⟨h6, h1⟩, setEnabled_apu, setLen_apu, Apu.setChannel_setChannel,
          Apu.channel_setChannel, if_pos rfl]
      · rw [if_neg (by omega), if_neg (fun k => h1 k.2), setLen_apu]
    · rw [if_neg (fun k => h0 k.2), if_pos h6, if_neg (by omega)]
      have h : (s.apu.channel ch).len - 1 = (s.apu.channel ch).len := by omega
      rw [h]
      exact (Apu.setChannel_channel _ _).symm
  · rw [if_neg (fun k => h6 k.1), if_neg h6, if_neg (fun k => h6 k.1)]
    exact (Apu.setChannel_channel _ _).symm

/-! ## The sweep's parts (R413) -/

theorem sweepCheck_apu (s : Board) :
    (sweepCheck s).apu =
      { s.apu with ch1 := { s.apu.ch1 with en := if 2047 < sweepNew s then false else s.apu.ch1.en } } := by
  unfold sweepCheck
  split <;> rfl

theorem sweepStore_apu (new : BitVec 11) (s : Board) :
    (sweepStore new s).apu = { s.apu with sweep := { s.apu.sweep with shadow := new } } := rfl

/-! ## The envelopes (R412) -/

theorem envelopeTick_envelope (ch c : Chan) (s : Board) :
    (envelopeTick ch s).apu.envelope c =
      if c = ch then (s.apu.envelope c).map (fun v => v.tick (rawRead s c.nrx2)) else s.apu.envelope c := by
  cases ch <;> cases c <;> rfl

/-! ## One cycle of a generator (R414 to R416, R420) -/

/-- The period depends on NRx3 and NRx4 only. -/
theorem period_congr {s t : Board} (ch : Chan) (h3 : rawRead t ch.nrx3 = rawRead s ch.nrx3)
    (h4 : rawRead t ch.nrx4 = rawRead s ch.nrx4) : period t ch = period s ch := by
  cases ch <;> simp only [Chan.nrx3, Chan.nrx4] at h3 h4 <;> simp only [period, freq, Chan.nrx3, Chan.nrx4, h3, h4]

theorem timerCycle_apu (ch : Chan) (s : Board) :
    (timerCycle ch s).apu =
      let c := s.apu.channel ch
      let p := s.apu.setChannel ch { c with timer := if c.timer ≤ 1 then period s ch else c.timer - 1 }
      if c.timer ≤ 1 then
        match ch with
        | .one => { p with duty1 := p.duty1 + 1 }
        | .two => { p with duty2 := p.duty2 + 1 }
        | .three => { p with pos3 := p.pos3 + 1 }
        | .four => { p with lfsr := lfsrNext ((rawRead s Io.nr43).getLsbD 3) p.lfsr }
      else p := by
  unfold timerCycle
  dsimp only
  by_cases h : (s.apu.channel ch).timer ≤ 1
  · rw [if_pos (by omega), if_pos h, if_pos h]
    have hp : period (setTimer ch ((s.apu.channel ch).timer - 1) s) ch = period s ch := period_congr ch rfl rfl
    unfold generatorStep
    rw [hp]
    cases ch <;> rfl
  · rw [if_neg (by omega), if_neg h, if_neg h]; rfl

@[simp] theorem rawRead_timerCycle (ch : Chan) (s : Board) (a : Word) : rawRead (timerCycle ch s) a = rawRead s a :=
  (touches_timerCycle (l := []) (tim := false) (vid := false) ch s).bytes a (by simp)

end Sys2Proof.Machine
end

