-- ==== Sys2Proof/Laws/Video.lean ====
section
/-! SUPPORT. The PPU's shared operations, said once: what entering a mode and comparing LY with LYC leave in STAT, IF and
the hidden state (spec/60_exceptions.md R373, R375), and the two cases of a step with the LCD enabled (R372). -/

namespace Sys2Proof.Machine

/-! ## Entering a mode (R373) -/

/-- The enable bits do not change with the mode bits. -/
theorem modeRequests_mask (m : PpuMode) (v : Byte) : modeRequests m ((v &&& 0xFC) ||| m.code) = modeRequests m v := by
  cases m <;> simp [modeRequests, PpuMode.code]

@[simp] theorem setMode_ppu (m : PpuMode) (s : Board) : (setMode m s).ppu = { s.ppu with mode := m } := by
  unfold setMode; dsimp only; split <;> rfl

theorem setMode_stat (m : PpuMode) (s : Board) :
    rawRead (setMode m s) Io.stat = (rawRead s Io.stat &&& 0xFC) ||| m.code := by
  unfold setMode requestInterrupt
  dsimp only
  split
  · rw [rawRead_rawWrite_other _ _ (by decide)]; exact rawRead_rawWrite_same _ _ _
  · exact rawRead_rawWrite_same _ _ _

theorem setMode_if (m : PpuMode) (s : Board) :
    rawRead (setMode m s) Io.if_ =
      if modeRequests m (rawRead s Io.stat) then rawRead s Io.if_ ||| 0x02 else rawRead s Io.if_ := by
  have hi : rawRead (writeStatMode m { s with ppu := { s.ppu with mode := m } }) Io.if_ = rawRead s Io.if_ :=
    rawRead_rawWrite_other _ _ (by decide)
  have hs : rawRead (writeStatMode m { s with ppu := { s.ppu with mode := m } }) Io.stat =
      (rawRead s Io.stat &&& 0xFC) ||| m.code := rawRead_rawWrite_same _ _ _
  unfold setMode requestInterrupt
  dsimp only
  rw [hs, modeRequests_mask]
  split
  · rw [rawRead_rawWrite_same, hi]
  · exact hi

@[simp] theorem setMode_ly (m : PpuMode) (s : Board) : rawRead (setMode m s) Io.ly = rawRead s Io.ly :=
  (touches_setMode m s).bytes _ (by simp)

/-! ## LY = LYC (R375) -/

@[simp] theorem lycCompare_ppu (s : Board) : (lycCompare s).ppu = s.ppu := (touches_lycCompare s).ppu rfl

@[simp] theorem lycCompare_ly (s : Board) : rawRead (lycCompare s) Io.ly = rawRead s Io.ly :=
  (touches_lycCompare s).bytes _ (by simp)

theorem lycCompare_stat (s : Board) :
    rawRead (lycCompare s) Io.stat =
      if rawRead s Io.ly = rawRead s Io.lyc then rawRead s Io.stat ||| 0x04 else rawRead s Io.stat &&& 0xFB := by
  unfold lycCompare requestInterrupt
  dsimp only
  split
  · split
    · rw [rawRead_rawWrite_other _ _ (by decide), rawRead_rawWrite_same]
    · rw [rawRead_rawWrite_same]
  · rw [rawRead_rawWrite_same]

theorem lycCompare_if (s : Board) :
    rawRead (lycCompare s) Io.if_ =
      if rawRead s Io.ly = rawRead s Io.lyc ∧ (rawRead s Io.stat).getLsbD 6 = true then rawRead s Io.if_ ||| 0x02
      else rawRead s Io.if_ := by
  have h6 : (rawRead s Io.stat ||| 0x04).getLsbD 6 = (rawRead s Io.stat).getLsbD 6 := by simp
  unfold lycCompare requestInterrupt
  dsimp only
  by_cases h : rawRead s Io.ly = rawRead s Io.lyc
  · rw [if_pos h, rawRead_rawWrite_same, h6]
    split
    · rename_i h'; rw [if_pos ⟨h, h'⟩, rawRead_rawWrite_same, rawRead_rawWrite_other _ _ (by decide)]
    · rename_i h'; rw [if_neg (fun k => h' k.2), rawRead_rawWrite_other _ _ (by decide)]
  · rw [if_neg h, if_neg (fun k => h k.1), rawRead_rawWrite_other _ _ (by decide)]

/-- The line compare changes STAT[2] only, so no enable of a mode request. -/
theorem lycCompare_modeRequests (m : PpuMode) (s : Board) :
    modeRequests m (rawRead (lycCompare s) Io.stat) = modeRequests m (rawRead s Io.stat) := by
  rw [lycCompare_stat]; split <;> cases m <;> simp [modeRequests]

/-! ## A step with the LCD enabled (R372) -/

theorem PpuMode.length_ge (m : PpuMode) : 80 ≤ m.length := by cases m <;> decide

/-- The end of a mode leaves the accumulator alone. -/
@[simp] theorem ppuModeEnd_acc (s : Board) : (ppuModeEnd s).ppu.acc = s.ppu.acc := by
  unfold ppuModeEnd
  dsimp only
  cases s.ppu.mode <;> dsimp only
  · split <;> simp [frameDone, raiseVBlank, requestInterrupt]
  · split <;> simp
  · simp
  · simp [renderLine]

/-- Before the end of the mode only the accumulator moves. -/
theorem ppuStep_wait {s : Board} {n : Nat} (h7 : lcdcBit s 7 = true) (h : s.ppu.acc + n < s.ppu.mode.length) :
    ppuStep n s = { s with ppu := { s.ppu with acc := s.ppu.acc + n } } := by
  unfold ppuStep
  rw [if_pos h7]
  dsimp only
  unfold ppuLoop
  rw [if_pos h]

/-- A step that ends the mode and, being less than 80 cycles past its end, no second one. -/
theorem ppuStep_end {s : Board} {n : Nat} (h7 : lcdcBit s 7 = true) (h1 : s.ppu.mode.length ≤ s.ppu.acc + n)
    (h2 : s.ppu.acc + n < s.ppu.mode.length + 80) :
    ppuStep n s = ppuModeEnd { s with ppu := { s.ppu with acc := s.ppu.acc + n - s.ppu.mode.length } } := by
  unfold ppuStep
  rw [if_pos h7]
  dsimp only
  have h80 := PpuMode.length_ge s.ppu.mode
  obtain ⟨k, hk⟩ : ∃ k, (s.ppu.acc + n) / 80 + 1 = k + 2 := ⟨(s.ppu.acc + n) / 80 - 1, by omega⟩
  rw [hk, ppuLoop, if_neg (by dsimp only; omega)]
  dsimp only
  rw [ppuLoop, if_pos]
  rw [ppuModeEnd_acc]
  have h3 : s.ppu.acc + n - s.ppu.mode.length < 80 := by omega
  exact Nat.lt_of_lt_of_le h3 (PpuMode.length_ge _)

end Sys2Proof.Machine
end

