-- ==== Sys2Proof/Tests/Slice0.lean ====
section
/-! SUPPORT. Tests: what each check refuses, every decoding, the derived vectors of spec/95_test_vectors.md (the expected
results are the spec's), one step each, and for every statement with hypotheses a state or operand that meets them. -/

namespace Sys2Proof.Tests

open Sys2Proof.Machine

/-! ## Well-formedness -/

/-- The bare prefix is no instruction (R161, R315). -/
theorem test_prefix_ill_formed : (Instr.prefixCb 0x00).wellFormed = false ∧ (Instr.prefixCb 0xFF).wellFormed = false := by decide

/-- Every other row is one. -/
theorem test_others_well_formed : (Instr.nop).WellFormed ∧ (Instr.stop 0xFF).WellFormed ∧ (Instr.illegalFD).WellFormed ∧
    (Instr.set7A).WellFormed := by decide

/-! ## Decoding: words written out from the encodings of spec/30_encoding.md R151 to R156 -/

/-- Each of these words decodes to its instruction, with nothing left over. -/
def reads (words : List (List Byte × Instr)) : Bool :=
  words.all fun p =>
    match decode p.1 with
    | .ok (i, rest) => decide (i = p.2 ∧ rest = [])
    | .error _ => false

/-- A missing operand byte is an error of the decoder, by name. -/
theorem test_truncated : decode [] = .error .noBytes ∧ decode [0x06] = .error (.truncated 0x06) ∧
    decode [0xC3, 0x50] = .error (.truncated 0xC3) := by decide

theorem test_decode_first_byte_0x : reads [
  ([0b00000000], .nop), ([0b00000001, 0x12, 0x34], .ldBcN16 0x3412), ([0b00000010], .ldMbcA), ([0b00000011], .incBc),
   ([0b00000100], .incB), ([0b00000101], .decB), ([0b00000110, 0x12], .ldBN8 0x12), ([0b00000111], .rlca),
   ([0b00001000, 0x12, 0x34], .ldMa16Sp 0x3412), ([0b00001001], .addHlBc), ([0b00001010], .ldAMbc),
   ([0b00001011], .decBc), ([0b00001100], .incC), ([0b00001101], .decC), ([0b00001110, 0x12], .ldCN8 0x12),
   ([0b00001111], .rrca)] := by decide

theorem test_decode_first_byte_1x : reads [
  ([0b00010000, 0x12], .stop 0x12), ([0b00010001, 0x12, 0x34], .ldDeN16 0x3412), ([0b00010010], .ldMdeA),
   ([0b00010011], .incDe), ([0b00010100], .incD), ([0b00010101], .decD), ([0b00010110, 0x12], .ldDN8 0x12),
   ([0b00010111], .rla), ([0b00011000, 0x12], .jrE8 0x12), ([0b00011001], .addHlDe), ([0b00011010], .ldAMde),
   ([0b00011011], .decDe), ([0b00011100], .incE), ([0b00011101], .decE), ([0b00011110, 0x12], .ldEN8 0x12),
   ([0b00011111], .rra)] := by decide

theorem test_decode_first_byte_2x : reads [
  ([0b00100000, 0x12], .jrNzE8 0x12), ([0b00100001, 0x12, 0x34], .ldHlN16 0x3412), ([0b00100010], .ldMhliA),
   ([0b00100011], .incHl), ([0b00100100], .incH), ([0b00100101], .decH), ([0b00100110, 0x12], .ldHN8 0x12),
   ([0b00100111], .daa), ([0b00101000, 0x12], .jrZE8 0x12), ([0b00101001], .addHlHl), ([0b00101010], .ldAMhli),
   ([0b00101011], .decHl), ([0b00101100], .incL), ([0b00101101], .decL), ([0b00101110, 0x12], .ldLN8 0x12),
   ([0b00101111], .cpl)] := by decide

theorem test_decode_first_byte_3x : reads [
  ([0b00110000, 0x12], .jrNcE8 0x12), ([0b00110001, 0x12, 0x34], .ldSpN16 0x3412), ([0b00110010], .ldMhldA),
   ([0b00110011], .incSp), ([0b00110100], .incMhl), ([0b00110101], .decMhl), ([0b00110110, 0x12], .ldMhlN8 0x12),
   ([0b00110111], .scf), ([0b00111000, 0x12], .jrCE8 0x12), ([0b00111001], .addHlSp), ([0b00111010], .ldAMhld),
   ([0b00111011], .decSp), ([0b00111100], .incA), ([0b00111101], .decA), ([0b00111110, 0x12], .ldAN8 0x12),
   ([0b00111111], .ccf)] := by decide

theorem test_decode_first_byte_4x : reads [
  ([0b01000000], .ldBB), ([0b01000001], .ldBC), ([0b01000010], .ldBD), ([0b01000011], .ldBE), ([0b01000100], .ldBH),
   ([0b01000101], .ldBL), ([0b01000110], .ldBMhl), ([0b01000111], .ldBA), ([0b01001000], .ldCB),
   ([0b01001001], .ldCC), ([0b01001010], .ldCD), ([0b01001011], .ldCE), ([0b01001100], .ldCH), ([0b01001101], .ldCL),
   ([0b01001110], .ldCMhl), ([0b01001111], .ldCA)] := by decide

theorem test_decode_first_byte_5x : reads [
  ([0b01010000], .ldDB), ([0b01010001], .ldDC), ([0b01010010], .ldDD), ([0b01010011], .ldDE), ([0b01010100], .ldDH),
   ([0b01010101], .ldDL), ([0b01010110], .ldDMhl), ([0b01010111], .ldDA), ([0b01011000], .ldEB),
   ([0b01011001], .ldEC), ([0b01011010], .ldED), ([0b01011011], .ldEE), ([0b01011100], .ldEH), ([0b01011101], .ldEL),
   ([0b01011110], .ldEMhl), ([0b01011111], .ldEA)] := by decide

theorem test_decode_first_byte_6x : reads [
  ([0b01100000], .ldHB), ([0b01100001], .ldHC), ([0b01100010], .ldHD), ([0b01100011], .ldHE), ([0b01100100], .ldHH),
   ([0b01100101], .ldHL), ([0b01100110], .ldHMhl), ([0b01100111], .ldHA), ([0b01101000], .ldLB),
   ([0b01101001], .ldLC), ([0b01101010], .ldLD), ([0b01101011], .ldLE), ([0b01101100], .ldLH), ([0b01101101], .ldLL),
   ([0b01101110], .ldLMhl), ([0b01101111], .ldLA)] := by decide

theorem test_decode_first_byte_7x : reads [
  ([0b01110000], .ldMhlB), ([0b01110001], .ldMhlC), ([0b01110010], .ldMhlD), ([0b01110011], .ldMhlE),
   ([0b01110100], .ldMhlH), ([0b01110101], .ldMhlL), ([0b01110110], .halt), ([0b01110111], .ldMhlA),
   ([0b01111000], .ldAB), ([0b01111001], .ldAC), ([0b01111010], .ldAD), ([0b01111011], .ldAE), ([0b01111100], .ldAH),
   ([0b01111101], .ldAL), ([0b01111110], .ldAMhl), ([0b01111111], .ldAA)] := by decide

theorem test_decode_first_byte_8x : reads [
  ([0b10000000], .addAB), ([0b10000001], .addAC), ([0b10000010], .addAD), ([0b10000011], .addAE),
   ([0b10000100], .addAH), ([0b10000101], .addAL), ([0b10000110], .addAMhl), ([0b10000111], .addAA),
   ([0b10001000], .adcAB), ([0b10001001], .adcAC), ([0b10001010], .adcAD), ([0b10001011], .adcAE),
   ([0b10001100], .adcAH), ([0b10001101], .adcAL), ([0b10001110], .adcAMhl), ([0b10001111], .adcAA)] := by decide

theorem test_decode_first_byte_9x : reads [
  ([0b10010000], .subB), ([0b10010001], .subC), ([0b10010010], .subD), ([0b10010011], .subE), ([0b10010100], .subH),
   ([0b10010101], .subL), ([0b10010110], .subMhl), ([0b10010111], .subA), ([0b10011000], .sbcAB),
   ([0b10011001], .sbcAC), ([0b10011010], .sbcAD), ([0b10011011], .sbcAE), ([0b10011100], .sbcAH),
   ([0b10011101], .sbcAL), ([0b10011110], .sbcAMhl), ([0b10011111], .sbcAA)] := by decide

theorem test_decode_first_byte_Ax : reads [
  ([0b10100000], .andB), ([0b10100001], .andC), ([0b10100010], .andD), ([0b10100011], .andE), ([0b10100100], .andH),
   ([0b10100101], .andL), ([0b10100110], .andMhl), ([0b10100111], .andA), ([0b10101000], .xorB),
   ([0b10101001], .xorC), ([0b10101010], .xorD), ([0b10101011], .xorE), ([0b10101100], .xorH), ([0b10101101], .xorL),
   ([0b10101110], .xorMhl), ([0b10101111], .xorA)] := by decide

theorem test_decode_first_byte_Bx : reads [
  ([0b10110000], .orB), ([0b10110001], .orC), ([0b10110010], .orD), ([0b10110011], .orE), ([0b10110100], .orH),
   ([0b10110101], .orL), ([0b10110110], .orMhl), ([0b10110111], .orA), ([0b10111000], .cpB), ([0b10111001], .cpC),
   ([0b10111010], .cpD), ([0b10111011], .cpE), ([0b10111100], .cpH), ([0b10111101], .cpL), ([0b10111110], .cpMhl),
   ([0b10111111], .cpA)] := by decide

theorem test_decode_first_byte_Cx : reads [
  ([0b11000000], .retNz), ([0b11000001], .popBc), ([0b11000010, 0x12, 0x34], .jpNzA16 0x3412),
   ([0b11000011, 0x12, 0x34], .jpA16 0x3412), ([0b11000100, 0x12, 0x34], .callNzA16 0x3412), ([0b11000101], .pushBc),
   ([0b11000110, 0x12], .addAN8 0x12), ([0b11000111], .rst00), ([0b11001000], .retZ), ([0b11001001], .ret),
   ([0b11001010, 0x12, 0x34], .jpZA16 0x3412), ([0b11001100, 0x12, 0x34], .callZA16 0x3412),
   ([0b11001101, 0x12, 0x34], .callA16 0x3412), ([0b11001110, 0x12], .adcAN8 0x12), ([0b11001111], .rst08)] := by decide

theorem test_decode_first_byte_Dx : reads [
  ([0b11010000], .retNc), ([0b11010001], .popDe), ([0b11010010, 0x12, 0x34], .jpNcA16 0x3412),
   ([0b11010011], .illegalD3), ([0b11010100, 0x12, 0x34], .callNcA16 0x3412), ([0b11010101], .pushDe),
   ([0b11010110, 0x12], .subN8 0x12), ([0b11010111], .rst10), ([0b11011000], .retC), ([0b11011001], .reti),
   ([0b11011010, 0x12, 0x34], .jpCA16 0x3412), ([0b11011011], .illegalDB),
   ([0b11011100, 0x12, 0x34], .callCA16 0x3412), ([0b11011101], .illegalDD), ([0b11011110, 0x12], .sbcAN8 0x12),
   ([0b11011111], .rst18)] := by decide

theorem test_decode_first_byte_Ex : reads [
  ([0b11100000, 0x12], .ldhMa8A 0x12), ([0b11100001], .popHl), ([0b11100010], .ldMcA), ([0b11100011], .illegalE3),
   ([0b11100100], .illegalE4), ([0b11100101], .pushHl), ([0b11100110, 0x12], .andN8 0x12), ([0b11100111], .rst20),
   ([0b11101000, 0x12], .addSpE8 0x12), ([0b11101001], .jpHl), ([0b11101010, 0x12, 0x34], .ldMa16A 0x3412),
   ([0b11101011], .illegalEB), ([0b11101100], .illegalEC), ([0b11101101], .illegalED),
   ([0b11101110, 0x12], .xorN8 0x12), ([0b11101111], .rst28)] := by decide

theorem test_decode_first_byte_Fx : reads [
  ([0b11110000, 0x12], .ldhAMa8 0x12), ([0b11110001], .popAf), ([0b11110010], .ldAMc), ([0b11110011], .di),
   ([0b11110100], .illegalF4), ([0b11110101], .pushAf), ([0b11110110, 0x12], .orN8 0x12), ([0b11110111], .rst30),
   ([0b11111000, 0x12], .ldHlSpE8 0x12), ([0b11111001], .ldSpHl), ([0b11111010, 0x12, 0x34], .ldAMa16 0x3412),
   ([0b11111011], .ei), ([0b11111100], .illegalFC), ([0b11111101], .illegalFD), ([0b11111110, 0x12], .cpN8 0x12),
   ([0b11111111], .rst38)] := by decide

theorem test_decode_second_byte_0x : reads [
  ([0xCB, 0b00000000], .rlcB), ([0xCB, 0b00000001], .rlcC), ([0xCB, 0b00000010], .rlcD), ([0xCB, 0b00000011], .rlcE),
   ([0xCB, 0b00000100], .rlcH), ([0xCB, 0b00000101], .rlcL), ([0xCB, 0b00000110], .rlcMhl),
   ([0xCB, 0b00000111], .rlcA), ([0xCB, 0b00001000], .rrcB), ([0xCB, 0b00001001], .rrcC),
   ([0xCB, 0b00001010], .rrcD), ([0xCB, 0b00001011], .rrcE), ([0xCB, 0b00001100], .rrcH),
   ([0xCB, 0b00001101], .rrcL), ([0xCB, 0b00001110], .rrcMhl), ([0xCB, 0b00001111], .rrcA)] := by decide

theorem test_decode_second_byte_1x : reads [
  ([0xCB, 0b00010000], .rlB), ([0xCB, 0b00010001], .rlC), ([0xCB, 0b00010010], .rlD), ([0xCB, 0b00010011], .rlE),
   ([0xCB, 0b00010100], .rlH), ([0xCB, 0b00010101], .rlL), ([0xCB, 0b00010110], .rlMhl), ([0xCB, 0b00010111], .rlA),
   ([0xCB, 0b00011000], .rrB), ([0xCB, 0b00011001], .rrC), ([0xCB, 0b00011010], .rrD), ([0xCB, 0b00011011], .rrE),
   ([0xCB, 0b00011100], .rrH), ([0xCB, 0b00011101], .rrL), ([0xCB, 0b00011110], .rrMhl), ([0xCB, 0b00011111], .rrA)] := by decide

theorem test_decode_second_byte_2x : reads [
  ([0xCB, 0b00100000], .slaB), ([0xCB, 0b00100001], .slaC), ([0xCB, 0b00100010], .slaD), ([0xCB, 0b00100011], .slaE),
   ([0xCB, 0b00100100], .slaH), ([0xCB, 0b00100101], .slaL), ([0xCB, 0b00100110], .slaMhl),
   ([0xCB, 0b00100111], .slaA), ([0xCB, 0b00101000], .sraB), ([0xCB, 0b00101001], .sraC),
   ([0xCB, 0b00101010], .sraD), ([0xCB, 0b00101011], .sraE), ([0xCB, 0b00101100], .sraH),
   ([0xCB, 0b00101101], .sraL), ([0xCB, 0b00101110], .sraMhl), ([0xCB, 0b00101111], .sraA)] := by decide

theorem test_decode_second_byte_3x : reads [
  ([0xCB, 0b00110000], .swapB), ([0xCB, 0b00110001], .swapC), ([0xCB, 0b00110010], .swapD),
   ([0xCB, 0b00110011], .swapE), ([0xCB, 0b00110100], .swapH), ([0xCB, 0b00110101], .swapL),
   ([0xCB, 0b00110110], .swapMhl), ([0xCB, 0b00110111], .swapA), ([0xCB, 0b00111000], .srlB),
   ([0xCB, 0b00111001], .srlC), ([0xCB, 0b00111010], .srlD), ([0xCB, 0b00111011], .srlE),
   ([0xCB, 0b00111100], .srlH), ([0xCB, 0b00111101], .srlL), ([0xCB, 0b00111110], .srlMhl),
   ([0xCB, 0b00111111], .srlA)] := by decide

theorem test_decode_second_byte_4x : reads [
  ([0xCB, 0b01000000], .bit0B), ([0xCB, 0b01000001], .bit0C), ([0xCB, 0b01000010], .bit0D),
   ([0xCB, 0b01000011], .bit0E), ([0xCB, 0b01000100], .bit0H), ([0xCB, 0b01000101], .bit0L),
   ([0xCB, 0b01000110], .bit0Mhl), ([0xCB, 0b01000111], .bit0A), ([0xCB, 0b01001000], .bit1B),
   ([0xCB, 0b01001001], .bit1C), ([0xCB, 0b01001010], .bit1D), ([0xCB, 0b01001011], .bit1E),
   ([0xCB, 0b01001100], .bit1H), ([0xCB, 0b01001101], .bit1L), ([0xCB, 0b01001110], .bit1Mhl),
   ([0xCB, 0b01001111], .bit1A)] := by decide

theorem test_decode_second_byte_5x : reads [
  ([0xCB, 0b01010000], .bit2B), ([0xCB, 0b01010001], .bit2C), ([0xCB, 0b01010010], .bit2D),
   ([0xCB, 0b01010011], .bit2E), ([0xCB, 0b01010100], .bit2H), ([0xCB, 0b01010101], .bit2L),
   ([0xCB, 0b01010110], .bit2Mhl), ([0xCB, 0b01010111], .bit2A), ([0xCB, 0b01011000], .bit3B),
   ([0xCB, 0b01011001], .bit3C), ([0xCB, 0b01011010], .bit3D), ([0xCB, 0b01011011], .bit3E),
   ([0xCB, 0b01011100], .bit3H), ([0xCB, 0b01011101], .bit3L), ([0xCB, 0b01011110], .bit3Mhl),
   ([0xCB, 0b01011111], .bit3A)] := by decide

theorem test_decode_second_byte_6x : reads [
  ([0xCB, 0b01100000], .bit4B), ([0xCB, 0b01100001], .bit4C), ([0xCB, 0b01100010], .bit4D),
   ([0xCB, 0b01100011], .bit4E), ([0xCB, 0b01100100], .bit4H), ([0xCB, 0b01100101], .bit4L),
   ([0xCB, 0b01100110], .bit4Mhl), ([0xCB, 0b01100111], .bit4A), ([0xCB, 0b01101000], .bit5B),
   ([0xCB, 0b01101001], .bit5C), ([0xCB, 0b01101010], .bit5D), ([0xCB, 0b01101011], .bit5E),
   ([0xCB, 0b01101100], .bit5H), ([0xCB, 0b01101101], .bit5L), ([0xCB, 0b01101110], .bit5Mhl),
   ([0xCB, 0b01101111], .bit5A)] := by decide

theorem test_decode_second_byte_7x : reads [
  ([0xCB, 0b01110000], .bit6B), ([0xCB, 0b01110001], .bit6C), ([0xCB, 0b01110010], .bit6D),
   ([0xCB, 0b01110011], .bit6E), ([0xCB, 0b01110100], .bit6H), ([0xCB, 0b01110101], .bit6L),
   ([0xCB, 0b01110110], .bit6Mhl), ([0xCB, 0b01110111], .bit6A), ([0xCB, 0b01111000], .bit7B),
   ([0xCB, 0b01111001], .bit7C), ([0xCB, 0b01111010], .bit7D), ([0xCB, 0b01111011], .bit7E),
   ([0xCB, 0b01111100], .bit7H), ([0xCB, 0b01111101], .bit7L), ([0xCB, 0b01111110], .bit7Mhl),
   ([0xCB, 0b01111111], .bit7A)] := by decide

theorem test_decode_second_byte_8x : reads [
  ([0xCB, 0b10000000], .res0B), ([0xCB, 0b10000001], .res0C), ([0xCB, 0b10000010], .res0D),
   ([0xCB, 0b10000011], .res0E), ([0xCB, 0b10000100], .res0H), ([0xCB, 0b10000101], .res0L),
   ([0xCB, 0b10000110], .res0Mhl), ([0xCB, 0b10000111], .res0A), ([0xCB, 0b10001000], .res1B),
   ([0xCB, 0b10001001], .res1C), ([0xCB, 0b10001010], .res1D), ([0xCB, 0b10001011], .res1E),
   ([0xCB, 0b10001100], .res1H), ([0xCB, 0b10001101], .res1L), ([0xCB, 0b10001110], .res1Mhl),
   ([0xCB, 0b10001111], .res1A)] := by decide

theorem test_decode_second_byte_9x : reads [
  ([0xCB, 0b10010000], .res2B), ([0xCB, 0b10010001], .res2C), ([0xCB, 0b10010010], .res2D),
   ([0xCB, 0b10010011], .res2E), ([0xCB, 0b10010100], .res2H), ([0xCB, 0b10010101], .res2L),
   ([0xCB, 0b10010110], .res2Mhl), ([0xCB, 0b10010111], .res2A), ([0xCB, 0b10011000], .res3B),
   ([0xCB, 0b10011001], .res3C), ([0xCB, 0b10011010], .res3D), ([0xCB, 0b10011011], .res3E),
   ([0xCB, 0b10011100], .res3H), ([0xCB, 0b10011101], .res3L), ([0xCB, 0b10011110], .res3Mhl),
   ([0xCB, 0b10011111], .res3A)] := by decide

theorem test_decode_second_byte_Ax : reads [
  ([0xCB, 0b10100000], .res4B), ([0xCB, 0b10100001], .res4C), ([0xCB, 0b10100010], .res4D),
   ([0xCB, 0b10100011], .res4E), ([0xCB, 0b10100100], .res4H), ([0xCB, 0b10100101], .res4L),
   ([0xCB, 0b10100110], .res4Mhl), ([0xCB, 0b10100111], .res4A), ([0xCB, 0b10101000], .res5B),
   ([0xCB, 0b10101001], .res5C), ([0xCB, 0b10101010], .res5D), ([0xCB, 0b10101011], .res5E),
   ([0xCB, 0b10101100], .res5H), ([0xCB, 0b10101101], .res5L), ([0xCB, 0b10101110], .res5Mhl),
   ([0xCB, 0b10101111], .res5A)] := by decide

theorem test_decode_second_byte_Bx : reads [
  ([0xCB, 0b10110000], .res6B), ([0xCB, 0b10110001], .res6C), ([0xCB, 0b10110010], .res6D),
   ([0xCB, 0b10110011], .res6E), ([0xCB, 0b10110100], .res6H), ([0xCB, 0b10110101], .res6L),
   ([0xCB, 0b10110110], .res6Mhl), ([0xCB, 0b10110111], .res6A), ([0xCB, 0b10111000], .res7B),
   ([0xCB, 0b10111001], .res7C), ([0xCB, 0b10111010], .res7D), ([0xCB, 0b10111011], .res7E),
   ([0xCB, 0b10111100], .res7H), ([0xCB, 0b10111101], .res7L), ([0xCB, 0b10111110], .res7Mhl),
   ([0xCB, 0b10111111], .res7A)] := by decide

theorem test_decode_second_byte_Cx : reads [
  ([0xCB, 0b11000000], .set0B), ([0xCB, 0b11000001], .set0C), ([0xCB, 0b11000010], .set0D),
   ([0xCB, 0b11000011], .set0E), ([0xCB, 0b11000100], .set0H), ([0xCB, 0b11000101], .set0L),
   ([0xCB, 0b11000110], .set0Mhl), ([0xCB, 0b11000111], .set0A), ([0xCB, 0b11001000], .set1B),
   ([0xCB, 0b11001001], .set1C), ([0xCB, 0b11001010], .set1D), ([0xCB, 0b11001011], .set1E),
   ([0xCB, 0b11001100], .set1H), ([0xCB, 0b11001101], .set1L), ([0xCB, 0b11001110], .set1Mhl),
   ([0xCB, 0b11001111], .set1A)] := by decide

theorem test_decode_second_byte_Dx : reads [
  ([0xCB, 0b11010000], .set2B), ([0xCB, 0b11010001], .set2C), ([0xCB, 0b11010010], .set2D),
   ([0xCB, 0b11010011], .set2E), ([0xCB, 0b11010100], .set2H), ([0xCB, 0b11010101], .set2L),
   ([0xCB, 0b11010110], .set2Mhl), ([0xCB, 0b11010111], .set2A), ([0xCB, 0b11011000], .set3B),
   ([0xCB, 0b11011001], .set3C), ([0xCB, 0b11011010], .set3D), ([0xCB, 0b11011011], .set3E),
   ([0xCB, 0b11011100], .set3H), ([0xCB, 0b11011101], .set3L), ([0xCB, 0b11011110], .set3Mhl),
   ([0xCB, 0b11011111], .set3A)] := by decide

theorem test_decode_second_byte_Ex : reads [
  ([0xCB, 0b11100000], .set4B), ([0xCB, 0b11100001], .set4C), ([0xCB, 0b11100010], .set4D),
   ([0xCB, 0b11100011], .set4E), ([0xCB, 0b11100100], .set4H), ([0xCB, 0b11100101], .set4L),
   ([0xCB, 0b11100110], .set4Mhl), ([0xCB, 0b11100111], .set4A), ([0xCB, 0b11101000], .set5B),
   ([0xCB, 0b11101001], .set5C), ([0xCB, 0b11101010], .set5D), ([0xCB, 0b11101011], .set5E),
   ([0xCB, 0b11101100], .set5H), ([0xCB, 0b11101101], .set5L), ([0xCB, 0b11101110], .set5Mhl),
   ([0xCB, 0b11101111], .set5A)] := by decide

theorem test_decode_second_byte_Fx : reads [
  ([0xCB, 0b11110000], .set6B), ([0xCB, 0b11110001], .set6C), ([0xCB, 0b11110010], .set6D),
   ([0xCB, 0b11110011], .set6E), ([0xCB, 0b11110100], .set6H), ([0xCB, 0b11110101], .set6L),
   ([0xCB, 0b11110110], .set6Mhl), ([0xCB, 0b11110111], .set6A), ([0xCB, 0b11111000], .set7B),
   ([0xCB, 0b11111001], .set7C), ([0xCB, 0b11111010], .set7D), ([0xCB, 0b11111011], .set7E),
   ([0xCB, 0b11111100], .set7H), ([0xCB, 0b11111101], .set7L), ([0xCB, 0b11111110], .set7Mhl),
   ([0xCB, 0b11111111], .set7A)] := by decide
/-! ## The derived vectors (spec/95_test_vectors.md section 2), one CPU step each -/

/-- The start of a vector: these registers, IME, these bytes of `mem`, ROM bytes 0 where a vector reads one. -/
def machine (g : Regs) (ime : Bool) (cells : List (Nat × Byte)) : State :=
  { State.reset with
    regs := g
    ctl := { Control.reset with ime := ime }
    board := { Board.reset with mem := cells, cart := { Cartridge.unloaded with rom := [(0x0000, 0), (0x0150, 0)] } } }

/-- Set the Timer's phase. -/
def withTimaAcc (n : Nat) (s : State) : State :=
  { s with board := { s.board with timer := { s.board.timer with timaAcc := n } } }

/-- The CPU step from `s` goes on to a state of which `p` holds. -/
def after (s : State) (p : State → Bool) : Bool :=
  match cpuStep s with
  | .next t => p t
  | .fault _ => false
  | .refused _ => false

/-- The step from `s` goes on to a state of which `p` holds. -/
def afterStep (s : State) (p : State → Bool) : Bool :=
  match step s with
  | .next t => p t
  | .fault _ => false
  | .refused _ => false

/-- V1 (R171). -/
theorem test_V1_41 : after (machine ⟨0, 0, 0x12, 0x34, 0, 0, 0, 0, 0xDFF0, 0xC000⟩ false [(0xC000, 0x41)])
    (fun t => t.regs.b = 0x34 ∧ t.regs.f = 0x00 ∧ t.regs.pc = 0xC001 ∧ t.clock = 4) := by decide

/-- V2 (R171). -/
theorem test_V2_7F : after (machine ⟨0x99, 0, 0, 0, 0, 0, 0, 0, 0xDFF0, 0xC000⟩ false [(0xC000, 0x7F)])
    (fun t => t.regs.pc = 0xC001 ∧ t.regs.f = 0x00 ∧ t.clock = 4) := by decide

/-- V3 (R172). -/
theorem test_V3_3E_99 : after (machine ⟨0, 0, 0, 0, 0, 0, 0, 0, 0xDFF0, 0xC000⟩ false [(0xC000, 0x3E), (0xC001, 0x99)])
    (fun t => t.regs.a = 0x99 ∧ t.regs.f = 0x00 ∧ t.regs.pc = 0xC002 ∧ t.clock = 8) := by decide

/-- V4 (R173). -/
theorem test_V4_66 : after (machine ⟨0, 0, 0, 0, 0, 0, 0xC1, 0x00, 0xDFF0, 0xC000⟩ false [(0xC000, 0x66), (0xC100, 0xC2)])
    (fun t => t.regs.h = 0xC2 ∧ t.hl = 0xC200 ∧ t.regs.f = 0x00 ∧ t.regs.pc = 0xC001 ∧ t.clock = 8) := by decide

/-- V5 (R174). -/
theorem test_V5_74 : after (machine ⟨0, 0, 0, 0, 0, 0, 0xC1, 0x23, 0xDFF0, 0xC000⟩ false [(0xC000, 0x74)])
    (fun t => busRead t 0xC123 = 0xC1 ∧ t.regs.f = 0x00 ∧ t.regs.pc = 0xC001 ∧ t.clock = 8) := by decide

/-- V6 (R175, R96). -/
theorem test_V6_36_FF : after (machine ⟨0, 0, 0, 0, 0, 0, 0x01, 0x50, 0xDFF0, 0xC000⟩ false [(0xC000, 0x36), (0xC001, 0xFF)])
    (fun t => t.regs.f = 0x00 ∧ t.regs.pc = 0xC002 ∧ t.clock = 12) := by decide

/-- V7 (R179, R68). -/
theorem test_V7_12 : after (machine ⟨0x11, 0, 0, 0, 0xE1, 0x00, 0, 0, 0xDFF0, 0xC000⟩ false [(0xC000, 0x12)])
    (fun t => busRead t 0xC100 = 0x11 ∧ t.regs.f = 0x00 ∧ t.regs.pc = 0xC001 ∧ t.clock = 8) := by decide

/-- V8 (R182). -/
theorem test_V8_22 : after (machine ⟨0x1F, 0, 0, 0, 0, 0, 0xFF, 0xFF, 0xDFF0, 0xC000⟩ false [(0xC000, 0x22)])
    (fun t => busRead t 0xFFFF = 0x1F ∧ t.hl = 0x0000 ∧ t.regs.f = 0x00 ∧ t.regs.pc = 0xC001 ∧ t.clock = 8) := by decide

/-- V9 (R183). -/
theorem test_V9_32 : after (machine ⟨0x1F, 0, 0, 0, 0, 0, 0x00, 0x00, 0xDFF0, 0xC000⟩ false [(0xC000, 0x32)])
    (fun t => t.hl = 0xFFFF ∧ t.regs.f = 0x00 ∧ t.regs.pc = 0xC001 ∧ t.clock = 8) := by decide

/-- V10 (R185). -/
theorem test_V10_3A : after (machine ⟨0, 0, 0, 0, 0, 0, 0xC0, 0x01, 0xDFF0, 0xC000⟩ false [(0xC000, 0x3A), (0xC001, 0x07)])
    (fun t => t.regs.a = 0x07 ∧ t.hl = 0xC000 ∧ t.regs.f = 0x00 ∧ t.regs.pc = 0xC001 ∧ t.clock = 8) := by decide

/-- V11 (R187). -/
theorem test_V11_E0_80 : after (machine ⟨0x5A, 0, 0, 0, 0, 0, 0, 0, 0xDFF0, 0xC000⟩ false [(0xC000, 0xE0), (0xC001, 0x80)])
    (fun t => busRead t 0xFF80 = 0x5A ∧ t.regs.f = 0x00 ∧ t.regs.pc = 0xC002 ∧ t.clock = 12) := by decide

/-- V12 (R188). -/
theorem test_V12_F0_04 : after (machine ⟨0, 0, 0, 0, 0, 0, 0, 0, 0xDFF0, 0xC000⟩ false [(0xC000, 0xF0), (0xC001, 0x04), (0xFF04, 0x3C)])
    (fun t => t.regs.a = 0x3C ∧ t.regs.f = 0x00 ∧ t.regs.pc = 0xC002 ∧ t.clock = 12) := by decide

/-- V13 (R189, R112). -/
theorem test_V13_E2 : after (machine ⟨0x77, 0, 0, 0x04, 0, 0, 0, 0, 0xDFF0, 0xC000⟩ false [(0xC000, 0xE2), (0xFF04, 0x3C)])
    (fun t => busRead t 0xFF04 = 0x00 ∧ t.board.timer.divAcc = 0 ∧ t.regs.f = 0x00 ∧ t.regs.pc = 0xC001 ∧ t.clock = 8) := by decide

/-- V14 (R180, R67). -/
theorem test_V14_FA_00_A0 : after (machine ⟨0x00, 0, 0, 0, 0, 0, 0, 0, 0xDFF0, 0xC000⟩ false [(0xC000, 0xFA), (0xC001, 0x00), (0xC002, 0xA0)])
    (fun t => t.regs.a = 0xFF ∧ t.regs.f = 0x00 ∧ t.regs.pc = 0xC003 ∧ t.clock = 16) := by decide

/-- V15 (R181, R69). -/
theorem test_V15_EA_A0_FE : after (machine ⟨0x55, 0, 0, 0, 0, 0, 0, 0, 0xDFF0, 0xC000⟩ false [(0xC000, 0xEA), (0xC001, 0xA0), (0xC002, 0xFE)])
    (fun t => t.regs.f = 0x00 ∧ t.regs.pc = 0xC003 ∧ t.clock = 16) := by decide

/-- V21 (R200). -/
theorem test_V21_01_34_12 : after (machine ⟨0, 0, 0, 0, 0, 0, 0, 0, 0xDFF0, 0xC000⟩ false [(0xC000, 0x01), (0xC001, 0x34), (0xC002, 0x12)])
    (fun t => t.regs.b = 0x12 ∧ t.regs.c = 0x34 ∧ t.regs.f = 0x00 ∧ t.regs.pc = 0xC003 ∧ t.clock = 12) := by decide

/-- V22 (R202). -/
theorem test_V22_F9 : after (machine ⟨0, 0, 0, 0, 0, 0, 0xDF, 0xFF, 0xDFF0, 0xC000⟩ false [(0xC000, 0xF9)])
    (fun t => t.regs.sp = 0xDFFF ∧ t.regs.f = 0x00 ∧ t.regs.pc = 0xC001 ∧ t.clock = 8) := by decide

/-- V23 (R203). -/
theorem test_V23_F8_FF : after (machine ⟨0, 0xF0, 0, 0, 0, 0, 0, 0, 0x0000, 0xC000⟩ false [(0xC000, 0xF8), (0xC001, 0xFF)])
    (fun t => t.hl = 0xFFFF ∧ t.regs.f = 0x00 ∧ t.regs.pc = 0xC002 ∧ t.clock = 12) := by decide

/-- V24 (R203). -/
theorem test_V24_F8_01 : after (machine ⟨0, 0, 0, 0, 0, 0, 0, 0, 0x00FF, 0xC000⟩ false [(0xC000, 0xF8), (0xC001, 0x01)])
    (fun t => t.hl = 0x0100 ∧ t.regs.f = 0x30 ∧ t.regs.pc = 0xC002 ∧ t.clock = 12) := by decide

/-- V25 (R203). -/
theorem test_V25_F8_FE : after (machine ⟨0, 0, 0, 0, 0, 0, 0, 0, 0xFFF8, 0xC000⟩ false [(0xC000, 0xF8), (0xC001, 0xFE)])
    (fun t => t.hl = 0xFFF6 ∧ t.regs.f = 0x30 ∧ t.regs.pc = 0xC002 ∧ t.clock = 12) := by decide

/-- V26 (R207). -/
theorem test_V26_C5 : after (machine ⟨0, 0, 0x12, 0x34, 0, 0, 0, 0, 0xFFFE, 0xC000⟩ false [(0xC000, 0xC5)])
    (fun t => busRead t 0xFFFD = 0x12 ∧ busRead t 0xFFFC = 0x34 ∧ t.regs.sp = 0xFFFC ∧ t.regs.f = 0x00 ∧ t.regs.pc = 0xC001 ∧ t.clock = 16) := by decide

/-- V27 (R207). -/
theorem test_V27_F5 : after (machine ⟨0x12, 0xF0, 0, 0, 0, 0, 0, 0, 0xC102, 0xC000⟩ false [(0xC000, 0xF5)])
    (fun t => busRead t 0xC101 = 0x12 ∧ busRead t 0xC100 = 0xF0 ∧ t.regs.sp = 0xC100 ∧ t.regs.f = 0xF0 ∧ t.regs.pc = 0xC001 ∧ t.clock = 16) := by decide

/-- V28 (R208). -/
theorem test_V28_F1 : after (machine ⟨0, 0, 0, 0, 0, 0, 0, 0, 0xC100, 0xC000⟩ false [(0xC000, 0xF1), (0xC100, 0xFF), (0xC101, 0x12)])
    (fun t => t.regs.a = 0x12 ∧ t.regs.f = 0xF0 ∧ t.regs.sp = 0xC102 ∧ t.regs.pc = 0xC001 ∧ t.clock = 12) := by decide

/-- V30 (R216). -/
theorem test_V30_80 : after (machine ⟨0x44, 0, 0x11, 0, 0, 0, 0, 0, 0xDFF0, 0xC000⟩ false [(0xC000, 0x80)])
    (fun t => t.regs.a = 0x55 ∧ t.regs.f = 0x00 ∧ t.regs.pc = 0xC001 ∧ t.clock = 4) := by decide

/-- V31 (R216). -/
theorem test_V31_80 : after (machine ⟨0x01, 0, 0xFF, 0, 0, 0, 0, 0, 0xDFF0, 0xC000⟩ false [(0xC000, 0x80)])
    (fun t => t.regs.a = 0x00 ∧ t.regs.f = 0xB0 ∧ t.regs.pc = 0xC001 ∧ t.clock = 4) := by decide

/-- V32 (R216). -/
theorem test_V32_80 : after (machine ⟨0x00, 0, 0xFF, 0, 0, 0, 0, 0, 0xDFF0, 0xC000⟩ false [(0xC000, 0x80)])
    (fun t => t.regs.a = 0xFF ∧ t.regs.f = 0x00 ∧ t.regs.pc = 0xC001 ∧ t.clock = 4) := by decide

/-- V34 (R218). -/
theorem test_V34_C6_01 : after (machine ⟨0x0F, 0, 0, 0, 0, 0, 0, 0, 0xDFF0, 0xC000⟩ false [(0xC000, 0xC6), (0xC001, 0x01)])
    (fun t => t.regs.a = 0x10 ∧ t.regs.f = 0x20 ∧ t.regs.pc = 0xC002 ∧ t.clock = 8) := by decide

/-- V35 (R219). -/
theorem test_V35_88 : after (machine ⟨0xFF, 0x10, 0x00, 0, 0, 0, 0, 0, 0xDFF0, 0xC000⟩ false [(0xC000, 0x88)])
    (fun t => t.regs.a = 0x00 ∧ t.regs.f = 0xB0 ∧ t.regs.pc = 0xC001 ∧ t.clock = 4) := by decide

/-- V36 (R219). -/
theorem test_V36_88 : after (machine ⟨0xFF, 0x10, 0xFF, 0, 0, 0, 0, 0, 0xDFF0, 0xC000⟩ false [(0xC000, 0x88)])
    (fun t => t.regs.a = 0xFF ∧ t.regs.f = 0x30 ∧ t.regs.pc = 0xC001 ∧ t.clock = 4) := by decide

/-- V37 (R222). -/
theorem test_V37_90 : after (machine ⟨0x00, 0, 0x01, 0, 0, 0, 0, 0, 0xDFF0, 0xC000⟩ false [(0xC000, 0x90)])
    (fun t => t.regs.a = 0xFF ∧ t.regs.f = 0x70 ∧ t.regs.pc = 0xC001 ∧ t.clock = 4) := by decide

/-- V38 (R222). -/
theorem test_V38_97 : after (machine ⟨0x5C, 0, 0, 0, 0, 0, 0, 0, 0xDFF0, 0xC000⟩ false [(0xC000, 0x97)])
    (fun t => t.regs.a = 0x00 ∧ t.regs.f = 0xC0 ∧ t.regs.pc = 0xC001 ∧ t.clock = 4) := by decide

/-- V39 (R225). -/
theorem test_V39_98 : after (machine ⟨0x00, 0x10, 0x00, 0, 0, 0, 0, 0, 0xDFF0, 0xC000⟩ false [(0xC000, 0x98)])
    (fun t => t.regs.a = 0xFF ∧ t.regs.f = 0x70 ∧ t.regs.pc = 0xC001 ∧ t.clock = 4) := by decide

/-- V40 (R225). -/
theorem test_V40_98 : after (machine ⟨0x10, 0x10, 0x0F, 0, 0, 0, 0, 0, 0xDFF0, 0xC000⟩ false [(0xC000, 0x98)])
    (fun t => t.regs.a = 0x00 ∧ t.regs.f = 0xE0 ∧ t.regs.pc = 0xC001 ∧ t.clock = 4) := by decide

/-- V41 (R225). -/
theorem test_V41_9F : after (machine ⟨0x42, 0x10, 0, 0, 0, 0, 0, 0, 0xDFF0, 0xC000⟩ false [(0xC000, 0x9F)])
    (fun t => t.regs.a = 0xFF ∧ t.regs.f = 0x70 ∧ t.regs.pc = 0xC001 ∧ t.clock = 4) := by decide

/-- V43 (R231). -/
theorem test_V43_AF : after (machine ⟨0xFF, 0xF0, 0, 0, 0, 0, 0, 0, 0xDFF0, 0xC000⟩ false [(0xC000, 0xAF)])
    (fun t => t.regs.a = 0x00 ∧ t.regs.f = 0x80 ∧ t.regs.pc = 0xC001 ∧ t.clock = 4) := by decide

/-- V44 (R234). -/
theorem test_V44_B7 : after (machine ⟨0x00, 0, 0, 0, 0, 0, 0, 0, 0xDFF0, 0xC000⟩ false [(0xC000, 0xB7)])
    (fun t => t.regs.a = 0x00 ∧ t.regs.f = 0x80 ∧ t.regs.pc = 0xC001 ∧ t.clock = 4) := by decide

/-- V45 (R237). -/
theorem test_V45_B8 : after (machine ⟨0x3C, 0, 0x2F, 0, 0, 0, 0, 0, 0xDFF0, 0xC000⟩ false [(0xC000, 0xB8)])
    (fun t => t.regs.a = 0x3C ∧ t.regs.f = 0x60 ∧ t.regs.pc = 0xC001 ∧ t.clock = 4) := by decide

/-- V46 (R239). -/
theorem test_V46_FE_90 : after (machine ⟨0x8F, 0, 0, 0, 0, 0, 0, 0, 0xDFF0, 0xC000⟩ false [(0xC000, 0xFE), (0xC001, 0x90)])
    (fun t => t.regs.a = 0x8F ∧ t.regs.f = 0x50 ∧ t.regs.pc = 0xC002 ∧ t.clock = 8) := by decide

/-- V47 (R240). -/
theorem test_V47_3C : after (machine ⟨0xFF, 0x10, 0, 0, 0, 0, 0, 0, 0xDFF0, 0xC000⟩ false [(0xC000, 0x3C)])
    (fun t => t.regs.a = 0x00 ∧ t.regs.f = 0xB0 ∧ t.regs.pc = 0xC001 ∧ t.clock = 4) := by decide

/-- V48 (R240). -/
theorem test_V48_04 : after (machine ⟨0, 0, 0x0F, 0, 0, 0, 0, 0, 0xDFF0, 0xC000⟩ false [(0xC000, 0x04)])
    (fun t => t.regs.b = 0x10 ∧ t.regs.f = 0x20 ∧ t.regs.pc = 0xC001 ∧ t.clock = 4) := by decide

/-- V49 (R242). -/
theorem test_V49_3D : after (machine ⟨0x00, 0x10, 0, 0, 0, 0, 0, 0, 0xDFF0, 0xC000⟩ false [(0xC000, 0x3D)])
    (fun t => t.regs.a = 0xFF ∧ t.regs.f = 0x70 ∧ t.regs.pc = 0xC001 ∧ t.clock = 4) := by decide

/-- V50 (R242). -/
theorem test_V50_05 : after (machine ⟨0, 0, 0x10, 0, 0, 0, 0, 0, 0xDFF0, 0xC000⟩ false [(0xC000, 0x05)])
    (fun t => t.regs.b = 0x0F ∧ t.regs.f = 0x60 ∧ t.regs.pc = 0xC001 ∧ t.clock = 4) := by decide

/-- V51 (R241). -/
theorem test_V51_34 : after (machine ⟨0, 0, 0, 0, 0, 0, 0xC1, 0x00, 0xDFF0, 0xC000⟩ false [(0xC000, 0x34), (0xC100, 0xFF)])
    (fun t => busRead t 0xC100 = 0x00 ∧ t.regs.f = 0xA0 ∧ t.regs.pc = 0xC001 ∧ t.clock = 12) := by decide

/-- V52 (R243). -/
theorem test_V52_35 : after (machine ⟨0, 0, 0, 0, 0, 0, 0x01, 0x50, 0xDFF0, 0xC000⟩ false [(0xC000, 0x35)])
    (fun t => t.regs.f = 0x60 ∧ t.regs.pc = 0xC001 ∧ t.clock = 12) := by decide

/-- V56 (R244). -/
theorem test_V56_27 : after (machine ⟨0x9A, 0, 0, 0, 0, 0, 0, 0, 0xDFF0, 0xC000⟩ false [(0xC000, 0x27)])
    (fun t => t.regs.a = 0x00 ∧ t.regs.f = 0x90 ∧ t.regs.pc = 0xC001 ∧ t.clock = 4) := by decide

/-- V57 (R244). -/
theorem test_V57_27 : after (machine ⟨0x00, 0x70, 0, 0, 0, 0, 0, 0, 0xDFF0, 0xC000⟩ false [(0xC000, 0x27)])
    (fun t => t.regs.a = 0x9A ∧ t.regs.f = 0x50 ∧ t.regs.pc = 0xC001 ∧ t.clock = 4) := by decide

/-- V58 (R245). -/
theorem test_V58_2F : after (machine ⟨0x35, 0, 0, 0, 0, 0, 0, 0, 0xDFF0, 0xC000⟩ false [(0xC000, 0x2F)])
    (fun t => t.regs.a = 0xCA ∧ t.regs.f = 0x60 ∧ t.regs.pc = 0xC001 ∧ t.clock = 4) := by decide

/-- V59 (R246). -/
theorem test_V59_37 : after (machine ⟨0, 0xE0, 0, 0, 0, 0, 0, 0, 0xDFF0, 0xC000⟩ false [(0xC000, 0x37)])
    (fun t => t.regs.f = 0x90 ∧ t.regs.pc = 0xC001 ∧ t.clock = 4) := by decide

/-- V60 (R247). -/
theorem test_V60_3F : after (machine ⟨0, 0xF0, 0, 0, 0, 0, 0, 0, 0xDFF0, 0xC000⟩ false [(0xC000, 0x3F)])
    (fun t => t.regs.f = 0x80 ∧ t.regs.pc = 0xC001 ∧ t.clock = 4) := by decide

/-- V61 (R247). -/
theorem test_V61_3F : after (machine ⟨0, 0x00, 0, 0, 0, 0, 0, 0, 0xDFF0, 0xC000⟩ false [(0xC000, 0x3F)])
    (fun t => t.regs.f = 0x10 ∧ t.regs.pc = 0xC001 ∧ t.clock = 4) := by decide

/-- V65 (R250). -/
theorem test_V65_09 : after (machine ⟨0, 0x80, 0x06, 0x05, 0, 0, 0x8A, 0x23, 0xDFF0, 0xC000⟩ false [(0xC000, 0x09)])
    (fun t => t.hl = 0x9028 ∧ t.regs.f = 0xA0 ∧ t.regs.pc = 0xC001 ∧ t.clock = 8) := by decide

/-- V66 (R250). -/
theorem test_V66_29 : after (machine ⟨0, 0, 0, 0, 0, 0, 0x88, 0x00, 0xDFF0, 0xC000⟩ false [(0xC000, 0x29)])
    (fun t => t.hl = 0x1000 ∧ t.regs.f = 0x30 ∧ t.regs.pc = 0xC001 ∧ t.clock = 8) := by decide

/-- V67 (R250). -/
theorem test_V67_39 : after (machine ⟨0, 0x80, 0, 0, 0, 0, 0xFF, 0xFF, 0x0001, 0xC000⟩ false [(0xC000, 0x39)])
    (fun t => t.hl = 0x0000 ∧ t.regs.f = 0xB0 ∧ t.regs.pc = 0xC001 ∧ t.clock = 8) := by decide

/-- V68 (R251). -/
theorem test_V68_03 : after (machine ⟨0, 0xF0, 0x12, 0xFF, 0, 0, 0, 0, 0xDFF0, 0xC000⟩ false [(0xC000, 0x03)])
    (fun t => t.bc = 0x1300 ∧ t.regs.f = 0xF0 ∧ t.regs.pc = 0xC001 ∧ t.clock = 8) := by decide

/-- V69 (R251). -/
theorem test_V69_33 : after (machine ⟨0, 0, 0, 0, 0, 0, 0, 0, 0xFFFF, 0xC000⟩ false [(0xC000, 0x33)])
    (fun t => t.regs.sp = 0x0000 ∧ t.regs.f = 0x00 ∧ t.regs.pc = 0xC001 ∧ t.clock = 8) := by decide

/-- V70 (R252). -/
theorem test_V70_0B : after (machine ⟨0, 0, 0x00, 0x00, 0, 0, 0, 0, 0xDFF0, 0xC000⟩ false [(0xC000, 0x0B)])
    (fun t => t.bc = 0xFFFF ∧ t.regs.f = 0x00 ∧ t.regs.pc = 0xC001 ∧ t.clock = 8) := by decide

/-- V71 (R253). -/
theorem test_V71_E8_01 : after (machine ⟨0, 0x80, 0, 0, 0, 0, 0, 0, 0xFFFF, 0xC000⟩ false [(0xC000, 0xE8), (0xC001, 0x01)])
    (fun t => t.regs.sp = 0x0000 ∧ t.regs.f = 0x30 ∧ t.regs.pc = 0xC002 ∧ t.clock = 16) := by decide

/-- V72 (R253). -/
theorem test_V72_E8_FF : after (machine ⟨0, 0, 0, 0, 0, 0, 0, 0, 0x0001, 0xC000⟩ false [(0xC000, 0xE8), (0xC001, 0xFF)])
    (fun t => t.regs.sp = 0x0000 ∧ t.regs.f = 0x30 ∧ t.regs.pc = 0xC002 ∧ t.clock = 16) := by decide

/-- V73 (R253). -/
theorem test_V73_E8_FF : after (machine ⟨0, 0, 0, 0, 0, 0, 0, 0, 0x0000, 0xC000⟩ false [(0xC000, 0xE8), (0xC001, 0xFF)])
    (fun t => t.regs.sp = 0xFFFF ∧ t.regs.f = 0x00 ∧ t.regs.pc = 0xC002 ∧ t.clock = 16) := by decide

/-- V75 (R260). -/
theorem test_V75_07 : after (machine ⟨0x85, 0, 0, 0, 0, 0, 0, 0, 0xDFF0, 0xC000⟩ false [(0xC000, 0x07)])
    (fun t => t.regs.a = 0x0B ∧ t.regs.f = 0x10 ∧ t.regs.pc = 0xC001 ∧ t.clock = 4) := by decide

/-- V76 (R260). -/
theorem test_V76_07 : after (machine ⟨0x00, 0x80, 0, 0, 0, 0, 0, 0, 0xDFF0, 0xC000⟩ false [(0xC000, 0x07)])
    (fun t => t.regs.a = 0x00 ∧ t.regs.f = 0x00 ∧ t.regs.pc = 0xC001 ∧ t.clock = 4) := by decide

/-- V77 (R261). -/
theorem test_V77_0F : after (machine ⟨0x3B, 0, 0, 0, 0, 0, 0, 0, 0xDFF0, 0xC000⟩ false [(0xC000, 0x0F)])
    (fun t => t.regs.a = 0x9D ∧ t.regs.f = 0x10 ∧ t.regs.pc = 0xC001 ∧ t.clock = 4) := by decide

/-- V78 (R262). -/
theorem test_V78_17 : after (machine ⟨0x80, 0, 0, 0, 0, 0, 0, 0, 0xDFF0, 0xC000⟩ false [(0xC000, 0x17)])
    (fun t => t.regs.a = 0x00 ∧ t.regs.f = 0x10 ∧ t.regs.pc = 0xC001 ∧ t.clock = 4) := by decide

/-- V79 (R263). -/
theorem test_V79_1F : after (machine ⟨0x01, 0x10, 0, 0, 0, 0, 0, 0, 0xDFF0, 0xC000⟩ false [(0xC000, 0x1F)])
    (fun t => t.regs.a = 0x80 ∧ t.regs.f = 0x10 ∧ t.regs.pc = 0xC001 ∧ t.clock = 4) := by decide

/-- V80 (R265). -/
theorem test_V80_CB_07 : after (machine ⟨0x00, 0, 0, 0, 0, 0, 0, 0, 0xDFF0, 0xC000⟩ false [(0xC000, 0xCB), (0xC001, 0x07)])
    (fun t => t.regs.a = 0x00 ∧ t.regs.f = 0x80 ∧ t.regs.pc = 0xC002 ∧ t.clock = 8) := by decide

/-- V81 (R265). -/
theorem test_V81_CB_00 : after (machine ⟨0, 0, 0x85, 0, 0, 0, 0, 0, 0xDFF0, 0xC000⟩ false [(0xC000, 0xCB), (0xC001, 0x00)])
    (fun t => t.regs.b = 0x0B ∧ t.regs.f = 0x10 ∧ t.regs.pc = 0xC002 ∧ t.clock = 8) := by decide

/-- V82 (R267). -/
theorem test_V82_CB_09 : after (machine ⟨0, 0, 0, 0x01, 0, 0, 0, 0, 0xDFF0, 0xC000⟩ false [(0xC000, 0xCB), (0xC001, 0x09)])
    (fun t => t.regs.c = 0x80 ∧ t.regs.f = 0x10 ∧ t.regs.pc = 0xC002 ∧ t.clock = 8) := by decide

/-- V83 (R269). -/
theorem test_V83_CB_15 : after (machine ⟨0, 0, 0, 0, 0, 0, 0, 0x80, 0xDFF0, 0xC000⟩ false [(0xC000, 0xCB), (0xC001, 0x15)])
    (fun t => t.regs.l = 0x00 ∧ t.regs.f = 0x90 ∧ t.regs.pc = 0xC002 ∧ t.clock = 8) := by decide

/-- V84 (R271). -/
theorem test_V84_CB_1F : after (machine ⟨0x01, 0, 0, 0, 0, 0, 0, 0, 0xDFF0, 0xC000⟩ false [(0xC000, 0xCB), (0xC001, 0x1F)])
    (fun t => t.regs.a = 0x00 ∧ t.regs.f = 0x90 ∧ t.regs.pc = 0xC002 ∧ t.clock = 8) := by decide

/-- V85 (R273). -/
theorem test_V85_CB_22 : after (machine ⟨0, 0, 0, 0, 0x80, 0, 0, 0, 0xDFF0, 0xC000⟩ false [(0xC000, 0xCB), (0xC001, 0x22)])
    (fun t => t.regs.d = 0x00 ∧ t.regs.f = 0x90 ∧ t.regs.pc = 0xC002 ∧ t.clock = 8) := by decide

/-- V86 (R275). -/
theorem test_V86_CB_2F : after (machine ⟨0x8A, 0, 0, 0, 0, 0, 0, 0, 0xDFF0, 0xC000⟩ false [(0xC000, 0xCB), (0xC001, 0x2F)])
    (fun t => t.regs.a = 0xC5 ∧ t.regs.f = 0x00 ∧ t.regs.pc = 0xC002 ∧ t.clock = 8) := by decide

/-- V87 (R275). -/
theorem test_V87_CB_2F : after (machine ⟨0x01, 0, 0, 0, 0, 0, 0, 0, 0xDFF0, 0xC000⟩ false [(0xC000, 0xCB), (0xC001, 0x2F)])
    (fun t => t.regs.a = 0x00 ∧ t.regs.f = 0x90 ∧ t.regs.pc = 0xC002 ∧ t.clock = 8) := by decide

/-- V88 (R277). -/
theorem test_V88_CB_37 : after (machine ⟨0xF0, 0x10, 0, 0, 0, 0, 0, 0, 0xDFF0, 0xC000⟩ false [(0xC000, 0xCB), (0xC001, 0x37)])
    (fun t => t.regs.a = 0x0F ∧ t.regs.f = 0x00 ∧ t.regs.pc = 0xC002 ∧ t.clock = 8) := by decide

/-- V89 (R277). -/
theorem test_V89_CB_30 : after (machine ⟨0, 0, 0x00, 0, 0, 0, 0, 0, 0xDFF0, 0xC000⟩ false [(0xC000, 0xCB), (0xC001, 0x30)])
    (fun t => t.regs.b = 0x00 ∧ t.regs.f = 0x80 ∧ t.regs.pc = 0xC002 ∧ t.clock = 8) := by decide

/-- V90 (R279). -/
theorem test_V90_CB_3F : after (machine ⟨0xFF, 0, 0, 0, 0, 0, 0, 0, 0xDFF0, 0xC000⟩ false [(0xC000, 0xCB), (0xC001, 0x3F)])
    (fun t => t.regs.a = 0x7F ∧ t.regs.f = 0x10 ∧ t.regs.pc = 0xC002 ∧ t.clock = 8) := by decide

/-- V91 (R280). -/
theorem test_V91_CB_3E : after (machine ⟨0, 0, 0, 0, 0, 0, 0xC1, 0x00, 0xDFF0, 0xC000⟩ false [(0xC000, 0xCB), (0xC001, 0x3E), (0xC100, 0x01)])
    (fun t => busRead t 0xC100 = 0x00 ∧ t.regs.f = 0x90 ∧ t.regs.pc = 0xC002 ∧ t.clock = 16) := by decide

/-- V92 (R270). -/
theorem test_V92_CB_16 : after (machine ⟨0, 0x10, 0, 0, 0, 0, 0xC1, 0x00, 0xDFF0, 0xC000⟩ false [(0xC000, 0xCB), (0xC001, 0x16), (0xC100, 0x80)])
    (fun t => busRead t 0xC100 = 0x01 ∧ t.regs.f = 0x10 ∧ t.regs.pc = 0xC002 ∧ t.clock = 16) := by decide

/-- V93 (R281). -/
theorem test_V93_CB_7C : after (machine ⟨0, 0x10, 0, 0, 0, 0, 0x9F, 0, 0xDFF0, 0xC000⟩ false [(0xC000, 0xCB), (0xC001, 0x7C)])
    (fun t => t.regs.f = 0x30 ∧ t.regs.pc = 0xC002 ∧ t.clock = 8) := by decide

/-- V94 (R281). -/
theorem test_V94_CB_7C : after (machine ⟨0, 0, 0, 0, 0, 0, 0x7F, 0, 0xDFF0, 0xC000⟩ false [(0xC000, 0xCB), (0xC001, 0x7C)])
    (fun t => t.regs.f = 0xA0 ∧ t.regs.pc = 0xC002 ∧ t.clock = 8) := by decide

/-- V95 (R282). -/
theorem test_V95_CB_46 : after (machine ⟨0, 0, 0, 0, 0, 0, 0xC1, 0x00, 0xDFF0, 0xC000⟩ false [(0xC000, 0xCB), (0xC001, 0x46), (0xC100, 0xFE)])
    (fun t => t.regs.f = 0xA0 ∧ t.regs.pc = 0xC002 ∧ t.clock = 12) := by decide

/-- V96 (R283). -/
theorem test_V96_CB_BF : after (machine ⟨0xFF, 0xF0, 0, 0, 0, 0, 0, 0, 0xDFF0, 0xC000⟩ false [(0xC000, 0xCB), (0xC001, 0xBF)])
    (fun t => t.regs.a = 0x7F ∧ t.regs.f = 0xF0 ∧ t.regs.pc = 0xC002 ∧ t.clock = 8) := by decide

/-- V97 (R285). -/
theorem test_V97_CB_D8 : after (machine ⟨0, 0, 0x00, 0, 0, 0, 0, 0, 0xDFF0, 0xC000⟩ false [(0xC000, 0xCB), (0xC001, 0xD8)])
    (fun t => t.regs.b = 0x08 ∧ t.regs.f = 0x00 ∧ t.regs.pc = 0xC002 ∧ t.clock = 8) := by decide

/-- V98 (R286). -/
theorem test_V98_CB_FE : after (machine ⟨0, 0, 0, 0, 0, 0, 0xC1, 0x00, 0xDFF0, 0xC000⟩ false [(0xC000, 0xCB), (0xC001, 0xFE), (0xC100, 0x00)])
    (fun t => busRead t 0xC100 = 0x80 ∧ t.regs.f = 0x00 ∧ t.regs.pc = 0xC002 ∧ t.clock = 16) := by decide

/-- V99 (R284, R113). -/
theorem test_V99_CB_86 : after (withTimaAcc 9 (machine ⟨0, 0, 0, 0, 0, 0, 0xFF, 0x07, 0xDFF0, 0xC000⟩ false [(0xC000, 0xCB), (0xC001, 0x86), (0xFF07, 0x05)]))
    (fun t => busRead t 0xFF07 = 0x04 ∧ t.board.timer.timaAcc = 0 ∧ t.regs.f = 0x00 ∧ t.regs.pc = 0xC002 ∧ t.clock = 16) := by decide

/-- V100 (R291). -/
theorem test_V100_C3_50_01 : after (machine ⟨0, 0, 0, 0, 0, 0, 0, 0, 0xDFF0, 0xC000⟩ false [(0xC000, 0xC3), (0xC001, 0x50), (0xC002, 0x01)])
    (fun t => t.regs.pc = 0x0150 ∧ t.regs.f = 0x00 ∧ t.clock = 16) := by decide

/-- V101 (R292). -/
theorem test_V101_CA_00_80 : after (machine ⟨0, 0x80, 0, 0, 0, 0, 0, 0, 0xDFF0, 0xC000⟩ false [(0xC000, 0xCA), (0xC001, 0x00), (0xC002, 0x80)])
    (fun t => t.regs.pc = 0x8000 ∧ t.regs.f = 0x80 ∧ t.clock = 16) := by decide

/-- V102 (R292). -/
theorem test_V102_CA_00_80 : after (machine ⟨0, 0x00, 0, 0, 0, 0, 0, 0, 0xDFF0, 0xC000⟩ false [(0xC000, 0xCA), (0xC001, 0x00), (0xC002, 0x80)])
    (fun t => t.regs.pc = 0xC003 ∧ t.regs.f = 0x00 ∧ t.clock = 12) := by decide

/-- V103 (R293). -/
theorem test_V103_E9 : after (machine ⟨0, 0, 0, 0, 0, 0, 0xC1, 0x00, 0xDFF0, 0xC000⟩ false [(0xC000, 0xE9)])
    (fun t => t.regs.pc = 0xC100 ∧ t.regs.f = 0x00 ∧ t.clock = 4) := by decide

/-- V104 (R294). -/
theorem test_V104_18_05 : after (machine ⟨0, 0, 0, 0, 0, 0, 0, 0, 0xDFF0, 0xC000⟩ false [(0xC000, 0x18), (0xC001, 0x05)])
    (fun t => t.regs.pc = 0xC007 ∧ t.regs.f = 0x00 ∧ t.clock = 12) := by decide

/-- V105 (R294). -/
theorem test_V105_18_FE : after (machine ⟨0, 0, 0, 0, 0, 0, 0, 0, 0xDFF0, 0xC000⟩ false [(0xC000, 0x18), (0xC001, 0xFE)])
    (fun t => t.regs.pc = 0xC000 ∧ t.regs.f = 0x00 ∧ t.clock = 12) := by decide

/-- V106 (R295). -/
theorem test_V106_20_FB : after (machine ⟨0, 0x80, 0, 0, 0, 0, 0, 0, 0xDFF0, 0xC000⟩ false [(0xC000, 0x20), (0xC001, 0xFB)])
    (fun t => t.regs.pc = 0xC002 ∧ t.regs.f = 0x80 ∧ t.clock = 8) := by decide

/-- V107 (R295). -/
theorem test_V107_20_FB : after (machine ⟨0, 0x00, 0, 0, 0, 0, 0, 0, 0xDFF0, 0xC000⟩ false [(0xC000, 0x20), (0xC001, 0xFB)])
    (fun t => t.regs.pc = 0xBFFD ∧ t.regs.f = 0x00 ∧ t.clock = 12) := by decide

/-- V108 (R295). -/
theorem test_V108_38_7F : after (machine ⟨0, 0x10, 0, 0, 0, 0, 0, 0, 0xDFF0, 0xC000⟩ false [(0xC000, 0x38), (0xC001, 0x7F)])
    (fun t => t.regs.pc = 0xC081 ∧ t.regs.f = 0x10 ∧ t.clock = 12) := by decide

/-- V109 (R296). -/
theorem test_V109_CD_34_12 : after (machine ⟨0, 0, 0, 0, 0, 0, 0, 0, 0xFFFE, 0xC000⟩ false [(0xC000, 0xCD), (0xC001, 0x34), (0xC002, 0x12)])
    (fun t => busRead t 0xFFFD = 0xC0 ∧ busRead t 0xFFFC = 0x03 ∧ t.regs.sp = 0xFFFC ∧ t.regs.pc = 0x1234 ∧ t.regs.f = 0x00 ∧ t.clock = 24) := by decide

/-- V110 (R297). -/
theorem test_V110_DC_00_40 : after (machine ⟨0, 0x00, 0, 0, 0, 0, 0, 0, 0xDFF0, 0xC000⟩ false [(0xC000, 0xDC), (0xC001, 0x00), (0xC002, 0x40)])
    (fun t => t.regs.pc = 0xC003 ∧ t.regs.f = 0x00 ∧ t.clock = 12) := by decide

/-- V111 (R298). -/
theorem test_V111_C9 : after (machine ⟨0, 0, 0, 0, 0, 0, 0, 0, 0xC100, 0xC000⟩ false [(0xC000, 0xC9), (0xC100, 0x03), (0xC101, 0x80)])
    (fun t => t.regs.pc = 0x8003 ∧ t.regs.sp = 0xC102 ∧ t.regs.f = 0x00 ∧ t.clock = 16) := by decide

/-- V112 (R299). -/
theorem test_V112_C8 : after (machine ⟨0, 0x00, 0, 0, 0, 0, 0, 0, 0xDFF0, 0xC000⟩ false [(0xC000, 0xC8)])
    (fun t => t.regs.pc = 0xC001 ∧ t.regs.f = 0x00 ∧ t.clock = 8) := by decide

/-- V113 (R299). -/
theorem test_V113_C8 : after (machine ⟨0, 0x80, 0, 0, 0, 0, 0, 0, 0xC100, 0xC000⟩ false [(0xC000, 0xC8), (0xC100, 0x03), (0xC101, 0x80)])
    (fun t => t.regs.pc = 0x8003 ∧ t.regs.sp = 0xC102 ∧ t.regs.f = 0x80 ∧ t.clock = 20) := by decide

/-- V114 (R300). -/
theorem test_V114_D9 : after (machine ⟨0, 0, 0, 0, 0, 0, 0, 0, 0xC100, 0xC000⟩ false [(0xC000, 0xD9), (0xC100, 0x03), (0xC101, 0x80)])
    (fun t => t.regs.pc = 0x8003 ∧ t.regs.sp = 0xC102 ∧ t.ctl.ime = true ∧ t.regs.f = 0x00 ∧ t.clock = 16) := by decide

/-- V115 (R303). -/
theorem test_V115_EF : after (machine ⟨0, 0, 0, 0, 0, 0, 0, 0, 0xFFFE, 0xC000⟩ false [(0xC000, 0xEF)])
    (fun t => busRead t 0xFFFD = 0xC0 ∧ busRead t 0xFFFC = 0x01 ∧ t.regs.sp = 0xFFFC ∧ t.regs.pc = 0x0028 ∧ t.regs.f = 0x00 ∧ t.clock = 16) := by decide

/-- V120 (R310). -/
theorem test_V120_00 : after (machine ⟨0, 0, 0, 0, 0, 0, 0, 0, 0xDFF0, 0xC000⟩ false [(0xC000, 0x00)])
    (fun t => t.regs.pc = 0xC001 ∧ t.regs.f = 0x00 ∧ t.clock = 4) := by decide

/-- V121 (R311). -/
theorem test_V121_76 : after (machine ⟨0, 0, 0, 0, 0, 0, 0, 0, 0xDFF0, 0xC000⟩ true [(0xC000, 0x76), (0xFF0F, 0x00), (0xFFFF, 0x01)])
    (fun t => t.ctl.halted = true ∧ t.regs.pc = 0xC001 ∧ t.clock = 4) := by decide

/-- V124 (R312). -/
theorem test_V124_10_00 : after (machine ⟨0, 0, 0, 0, 0, 0, 0, 0, 0xDFF0, 0xC000⟩ false [(0xC000, 0x10), (0xC001, 0x00), (0xFF00, 0x20), (0xFF04, 0x55)])
    (fun t => t.ctl.stopped = true ∧ busRead t 0xFF04 = 0x00 ∧ t.board.timer.divAcc = 0 ∧ t.regs.pc = 0xC002 ∧ t.clock = 4) := by decide

/-- V125 (R313). -/
theorem test_V125_F3 : after (machine ⟨0, 0, 0, 0, 0, 0, 0, 0, 0xDFF0, 0xC000⟩ true [(0xC000, 0xF3)])
    (fun t => t.ctl.ime = false ∧ t.regs.pc = 0xC001 ∧ t.clock = 4) := by decide

/-- V129 (R329, R333). -/
theorem test_V129_00 : after (machine ⟨0, 0, 0, 0, 0, 0, 0, 0, 0xDFF0, 0xC000⟩ true [(0xC000, 0x00), (0xFF0F, 0x12), (0xFFFF, 0x1F)])
    (fun t => busRead t 0xFF0F = 0x10 ∧ t.ctl.ime = false ∧ busRead t 0xDFEF = 0xC0 ∧ busRead t 0xDFEE = 0x00 ∧ t.regs.sp = 0xDFEE ∧ t.regs.pc = 0x0048 ∧ t.clock = 20) := by decide

/-- V130 (R332). -/
theorem test_V130_00 : after (machine ⟨0, 0, 0, 0, 0, 0, 0, 0, 0xDFF0, 0xC000⟩ true [(0xC000, 0x00), (0xFF0F, 0x02), (0xFFFF, 0x01)])
    (fun t => t.regs.pc = 0xC001 ∧ t.clock = 4) := by decide
/-! ## The memory unit, Timer, PPU, APU, joypad (spec/95_test_vectors.md W1 to W14) -/

/-- A board with these bytes in `mem`. -/
def board (cells : List (Nat × Byte)) : Board := { Board.reset with mem := cells }

/-- W1: writing BOOT hides the boot region, whatever is written (R64, R117). -/
theorem test_W1_boot_disable :
    let b := { board [] with bootVisible := true, bootRom := [(0x10, 0xAA)], cart := { Cartridge.unloaded with rom := [(0x10, 0xBB)] } }
    memRead b 0x0010 = 0xAA ∧ memRead (memWrite b 0xFF50 0x01) 0x0010 = 0xBB ∧
    memRead (memWrite (memWrite b 0xFF50 0x01) 0xFF50 0x00) 0x0010 = 0xBB := by decide

/-- W2: the echo region both ways (R68). -/
theorem test_W2_echo : memRead (memWrite (board []) 0xC123 0x42) 0xE123 = 0x42 ∧
    memRead (memWrite (board []) 0xFDFF 0x43) 0xDDFF = 0x43 := by decide

/-- An MBC1 cartridge of 8 banks with one RAM bank. -/
def mbc1 : Cartridge := { Cartridge.unloaded with kind := .mbc1, nbanks := 8, ramBanks := 1 }

/-- W3: `bank_lo` 0 is 1, and the bank number is taken modulo the bank count (R97, R99). -/
theorem test_W3_rom_bank : (mbc1.bankWrite 0x2000 0x00).romBank = 1 ∧ (mbc1.bankWrite 0x2000 0x0B).romBank = 3 ∧
    (mbc1.bankWrite 0x2000 0x1F).romBank = 7 := by decide

/-- W4: TIMA overflows into TMA and requests the timer interrupt (R352, R354). -/
theorem test_W4_timer_overflow :
    let b := timerStep 16 (board [(0xFF05, 0xFE), (0xFF06, 0x80), (0xFF07, 0x05), (0xFF0F, 0x00)])
    rawRead b 0xFF05 = 0xFF ∧ rawRead b 0xFF0F = 0x00 ∧
    rawRead (timerStep 16 b) 0xFF05 = 0x80 ∧ rawRead (timerStep 16 b) 0xFF0F = 0x04 := by decide

/-- W5: DIV wraps with no request, and any write resets it (R112, R352). -/
theorem test_W5_div :
    let b := timerStep 4 { board [(0xFF04, 0xFF), (0xFF0F, 0x00)] with timer := ⟨252, 0⟩ }
    rawRead b 0xFF04 = 0x00 ∧ b.timer.divAcc = 0 ∧ rawRead b 0xFF0F = 0x00 ∧
    rawRead (memWrite b 0xFF04 0x99) 0xFF04 = 0x00 := by decide

/-- OAM with eleven sprites on the top line at X = 8 and the other entries off the screen. -/
def elevenSprites : Board :=
  board ((List.range 11).flatMap (fun k => [(0xFE00 + 4 * k, 16), (0xFE01 + 4 * k, 8)]) ++
    (List.range 29).map (fun k => (0xFE2C + 4 * k, 0)) ++ [(0xFF40, 0x91)])

/-- W6: the first ten in table order; none on line 8 (R380). -/
theorem test_W6_sprite_cap : oamSearch elevenSprites 0 = [0, 1, 2, 3, 4, 5, 6, 7, 8, 9] ∧ oamSearch elevenSprites 8 = [] := by
  decide

/-- W7, first line: mode 2 for 80 cycles after the enable, then mode 3 (R377, R370). -/
theorem test_W7_enable :
    let b := memWrite (board [(0xFF40, 0x00), (0xFF41, 0x00), (0xFF44, 0x00), (0xFF45, 0x00)]) 0xFF40 0x91
    b.ppu.mode = .oamSearch ∧ rawRead b 0xFF41 = 0x06 ∧ (ppuStep 79 b).ppu.mode = .oamSearch := by decide

/-- W8: a channel whose length counter is 1 goes off at the next length tick (R411). -/
theorem test_W8_length :
    let b := memWrite (memWrite (memWrite (board []) 0xFF17 0xF0) 0xFF16 0x3F) 0xFF19 0xC0
    b.apu.ch2.en = true ∧ b.apu.ch2.len = 1 ∧ (rawRead b 0xFF26).getLsbD 1 = true ∧
    (lengthTick .two b).apu.ch2.en = false ∧ (rawRead (lengthTick .two b) 0xFF26).getLsbD 1 = false := by decide

/-- W9: the colour indices of a tile row, left to right (R367). -/
theorem test_W9_tile_row : (List.range 8).map (fun c => colourIndex 0x3C 0x7E (7 - c)) = [0, 2, 3, 3, 3, 3, 2, 0] := by decide

/-- W10: palettes (R365). -/
theorem test_W10_palette : [0, 1, 2, 3].map (shadeOf 0xE4) = [0, 1, 2, 3] ∧ [0, 1, 2, 3].map (shadeOf 0xFC) = [0, 3, 3, 3] := by
  decide

/-- W11: the signed addressing mode (R367). -/
theorem test_W11_tile_address :
    [0x00, 0x7F, 0x80, 0xFF].map (tileAddress false) = [0x9000, 0x97F0, 0x8800, 0x8FF0] := by decide

/-- W12: a press pulls a selected line low and requests the joypad interrupt (R345, R346). -/
theorem test_W12_buttons :
    let b := pressButtons 0x10 (board [(0xFF00, 0x1F), (0xFF0F, 0x00)])
    rawRead b 0xFF00 = 0x1E ∧ rawRead b 0xFF0F = 0x10 := by decide

/-- W13, two bytes of it: the OAM copy (R118). -/
theorem test_W13_dma :
    let b := board [(0xC100, 0x00), (0xC19F, 0x9F)]
    dmaByte b 0xC1 0x9F = 0x9F ∧ rawRead (dmaCopyByte 0xC1 b 0x9F) 0xFE9F = 0x9F := by decide

/-- W14: the noise register (R416). -/
theorem test_W14_lfsr : lfsrNext false 0x7FFF = 0x3FFF ∧ lfsrNext false 0x3FFF = 0x1FFF := by decide

/-! ## The canonical form of memory -/

/-- Writing what an unlisted address reads as removes the entry: P1 reads 0xCF at a reset to PostBoot (R43). -/
theorem test_set_removes : Memory.set (Memory.set [] .postBoot 0xFF00 0x00) .postBoot 0xFF00 0xCF = [] := by decide

/-- Writes in any order give one list. -/
theorem test_set_order : Memory.set (Memory.set [] .postBoot 0xC001 1) .postBoot 0xC000 2 =
    Memory.set (Memory.set [] .postBoot 0xC000 2) .postBoot 0xC001 1 := by decide

/-- The reset memory has the canonical form. -/
theorem test_reset_wf : State.reset.board.memWf := by decide

/-! ## Loading (R90 to R95) -/

/-- An image with no header is refused (R91, R95). -/
theorem test_no_header : loadImage [] [] = .error .noHeader := rfl

/-- The header codes of R92 to R94 (and D36's ROM-size code 0x08), and codes that are refused. -/
theorem test_header_codes : cartType 0x03 = some (.mbc1, true) ∧ cartType 0x04 = none ∧ romBanksOf 0x00 = some 2 ∧
    romBanksOf 0x07 = some 256 ∧ romBanksOf 0x08 = some 512 ∧ romBanksOf 0x09 = none ∧ romBanksOf 0x52 = some 72 ∧
    romBanksOf 0x55 = none ∧ ramBanksOf 0x03 = some 4 ∧ ramBanksOf 0x04 = none := by decide

/-! ## Faults and stops -/

/-- P5, its last step: the illegal byte faults, and the faulted machine faults again (R35, R326). -/
theorem test_illegal_opcode :
    let s := machine ⟨0, 0, 0, 0, 0, 0, 0xC0, 0x00, 0xDFF0, 0xC000⟩ false [(0xC000, 0xDD)]
    let frozen : State := { s with ctl := { s.ctl with faulted := some ⟨0xDD, 0xC000⟩ } }
    step s = .fault (.illegalOpcode 0xDD 0xC000 frozen) ∧ step frozen = .fault (.illegalOpcode 0xDD 0xC000 frozen) := ⟨rfl, rfl⟩

/-- V122, its second step: with the HALT bug pending, INC A leaves PC where it is (R311). -/
theorem test_halt_bug :
    after { machine ⟨0, 0, 0, 0, 0, 0, 0, 0, 0xDFF0, 0xC001⟩ false [(0xC001, 0x3C)] with
        ctl := { Control.reset with haltBug := true } }
      (fun t => t.regs.a = 0x01 ∧ t.regs.pc = 0xC001 ∧ t.ctl.haltBug = false) := by decide

/-- V122, its first step: HALT with a request pending and IME = 0 does not halt (R311). -/
theorem test_halt_pending :
    after (machine ⟨0, 0, 0, 0, 0, 0, 0, 0, 0xDFF0, 0xC000⟩ false [(0xC000, 0x76), (0xFF0F, 0x01), (0xFFFF, 0x01)])
      (fun t => t.ctl.halted = false ∧ t.ctl.haltBug = true ∧ t.regs.pc = 0xC001) := by decide

/-- V126, its second step: the instruction after EI turns IME on (R314). -/
theorem test_enable_after :
    after { machine ⟨0, 0, 0, 0, 0, 0, 0, 0, 0xDFF0, 0xC001⟩ false [(0xC001, 0x00), (0xFF0F, 0x04), (0xFFFF, 0x04)] with
        ctl := { Control.reset with imeSched := true } }
      (fun t => t.ctl.ime = true ∧ t.ctl.imeSched = false ∧ t.regs.pc = 0xC002) := by decide

/-- V127, its second step: DI after EI leaves IME off (R313, R314). -/
theorem test_di_after_ei :
    after { machine ⟨0, 0, 0, 0, 0, 0, 0, 0, 0xDFF0, 0xC001⟩ false [(0xC001, 0xF3), (0xFF0F, 0x04), (0xFFFF, 0x04)] with
        ctl := { Control.reset with imeSched := true } }
      (fun t => t.ctl.ime = false ∧ t.ctl.imeSched = false ∧ t.regs.pc = 0xC002) := by decide

/-- V53, its second step: DAA after 0x45 + 0x38 (R244). -/
theorem test_daa_after_add :
    after (machine ⟨0x7D, 0, 0, 0, 0, 0, 0, 0, 0xDFF0, 0xC000⟩ false [(0xC000, 0x27)])
      (fun t => t.regs.a = 0x83 ∧ t.regs.f = 0x00) := by decide

/-- V20, its second step: SP is stored low byte first (R201). -/
theorem test_ld_a16_sp :
    after (machine ⟨0, 0, 0, 0, 0, 0, 0, 0, 0x7766, 0xC000⟩ false [(0xC000, 0x08), (0xC001, 0x66), (0xC002, 0xC7)])
      (fun t => busRead t 0xC766 = 0x66 ∧ busRead t 0xC767 = 0x77 ∧ t.clock = 20) := by decide

/-! ## The host's interface -/

/-- The word the host places is the one the first step after reset runs. -/
theorem test_withFetchWord : afterStep (State.reset.withFetchWord 16 0xCB37) (fun t => t.regs.a = 0x10 ∧ t.regs.pc = 0x0102) ∧
    decodeTableWord 16 0xCB37 = some .swapA ∧ decodeTableWord 8 0xDD = some .illegalDD := by decide

/-- Video RAM at a reset to PostBoot: 0x00 on both sides of the boot program's logo (R44). -/
theorem test_reset_vram : busRead State.reset 0x8000 = 0x00 ∧ busRead State.reset 0x9FFF = 0x00 ∧
    bootLogo 0x8010 = true ∧ bootLogo 0x9910 = true := by decide

/-- 0xFF15 is plain storage whatever NR52 says (R43, R402). -/
theorem test_functionless_sound_address :
    rawRead (memWrite (board [(0xFF26, 0x00)]) 0xFF15 0x5A) 0xFF15 = 0x5A ∧
    rawRead (memWrite (memWrite (board []) 0xFF1F 0x5A) 0xFF26 0x00) 0xFF1F = 0x5A := by decide

/-- Two moves before one step, a press and a release: the request the press made stays (R346, R465). -/
theorem test_two_moves :
    let s := { machine ⟨0, 0, 0, 0, 0, 0, 0, 0, 0xDFF0, 0xC000⟩ false [(0xC000, 0x00), (0xFF00, 0x1F), (0xFF0F, 0x00)] with
      hostMoves := [[0x10, 0x00], [0x20]] }
    afterStep s (fun t => rawRead t.board 0xFF00 = 0x1F ∧ rawRead t.board 0xFF0F = 0x10 ∧ t.hostMoves = [[0x20]] ∧
      t.regs.pc = 0xC001) := by decide

/-- `RunFrame` from a NOP, with this limit: why it ends and at which PC. -/
def frameEnd (limit : Nat) (s : State) : Option (FrameEnd × Word) :=
  match runFrame limit s with
  | .next (e, t) => some (e, t.regs.pc)
  | _ => none

/-- `RunFrame` ends at the host's limit, when stopped, at a fault, and at `FrameDone` (R465, R372, R392). -/
theorem test_runFrame :
    let at0 (bytes : List (Nat × Byte)) := machine ⟨0, 0, 0, 0, 0, 0, 0, 0, 0xDFF0, 0xC000⟩ false (bytes ++ [(0xC001, 0x00)])
    let late (s : State) : State := { s with board := { s.board with
      mem := s.board.mem ++ [(0xFF44, 143)], ppu := { s.board.ppu with mode := .hblank, acc := 200 } } }
    frameEnd 1 (at0 [(0xC000, 0x00)]) = some (.hostStop, 0xC001) ∧
    frameEnd 2 (at0 [(0xC000, 0x10)]) = some (.stopped, 0xC002) ∧
    frameEnd 2 (at0 [(0xC000, 0xDD)]) = none ∧
    frameEnd 2 (late (at0 [(0xC000, 0x00)])) = some (.frameDone, 0xC001) := by decide

/-! ## The statements' hypotheses are met (Certificates/Slice0/Obligations.lean)

One theorem per statement that has hypotheses: for each clause, a concrete state and operands that meet all of them
together, at a boundary value where the clause has a range. -/

/-- A register file with SP and PC in work RAM. -/
def regs0 : Regs := ⟨0x12, 0x00, 0x34, 0x56, 0x78, 0x9A, 0xC1, 0x00, 0xDFF0, 0xC000⟩

/-- A machine about to run these bytes at 0xC000. -/
def running (ime : Bool) (bytes : List Byte) (cells : List (Nat × Byte)) : State :=
  machine regs0 ime (((List.range bytes.length).zipWith (fun i v => (0xC000 + i, v)) bytes) ++ cells)

theorem witness_DecodeOfEncodeIsTheInstruction :
    (Instr.ldSpN16 0xFFFF).WellFormed ∧ (Instr.stop 0x00).WellFormed ∧ (Instr.set7A).WellFormed ∧
    (Instr.illegalFD).WellFormed := by decide

theorem witness_EncodeOfDecodeIsTheBytes :
    decode [0xCB, 0xFF, 0x01] = .ok (.set7A, [0x01]) ∧ decode [0xFA, 0xFF, 0xFF] = .ok (.ldAMa16 0xFFFF, []) ∧
    decode [0x00] = .ok (.nop, []) := by decide

theorem witness_StepRunsTheDecodedInstruction :
    (let s := running false [0xFA, 0xFF, 0xFF] [(0xFF0F, 0x1F), (0xFFFF, 0x1F)]
     s.ctl.faulted = none ∧ s.ctl.stopped = false ∧ s.ctl.halted = false ∧ s.ctl.haltBug = false ∧ s.hostMoves = [] ∧
     s.ctl.ime = false ∧ s.region s.regs.pc ≠ .crash ∧ s.region (s.regs.pc + 1) ≠ .crash ∧
     s.region (s.regs.pc + 2) ≠ .crash ∧
     decode [busRead s s.regs.pc, busRead s (s.regs.pc + 1), busRead s (s.regs.pc + 2)] = .ok (.ldAMa16 0xFFFF, [])) ∧
    (let s := running true [0x00, 0x00, 0x00] [(0xFF0F, 0x10), (0xFFFF, 0x0F)]
     s.ctl.ime = true ∧ pendingInterrupts s.board = 0 ∧
     decode [busRead s s.regs.pc, busRead s (s.regs.pc + 1), busRead s (s.regs.pc + 2)] = .ok (.nop, [0x00, 0x00])) := by
  decide

theorem witness_HaltBugReadsTheByteTwice :
    let s : State := { running false [0x06, 0x04] [] with ctl := { Control.reset with haltBug := true } }
    s.ctl.halted = false ∧ s.ctl.haltBug = true ∧ s.ctl.ime = false ∧ s.region s.regs.pc ≠ .crash ∧
    s.region (s.regs.pc + 1) ≠ .crash ∧
    decode [busRead s s.regs.pc, busRead s s.regs.pc, busRead s (s.regs.pc + 1)] = .ok (.ldBN8 0x06, [0x04]) ∧
    (Instr.ldBN8 0x06).form ≠ .halt ∧ (∀ op, (Instr.ldBN8 0x06).form ≠ .illegal op) := by
  refine ⟨rfl, rfl, rfl, by decide, by decide, rfl, by decide, ?_⟩
  intro op h
  cases h

theorem witness_InterruptEntrySavesPcAndGoesToTheVector :
    (let s := running true [] [(0xFF0F, 0x01), (0xFFFF, 0x1F)]
     s.ctl.ime = true ∧ pendingInterrupts s.board = 0x01 ∧ s.region (s.regs.sp - 1) ≠ .io ∧ s.region (s.regs.sp - 2) ≠ .io) ∧
    (let s := running true [] [(0xFF0F, 0xF0), (0xFFFF, 0x1F)]
     s.ctl.ime = true ∧ pendingInterrupts s.board = 0x10) := by decide

theorem witness_HaltedCpuIdlesUntilSomethingIsPending :
    (let s : State := { running true [] [(0xFF0F, 0xE0), (0xFFFF, 0xFF)] with ctl := { Control.reset with halted := true, ime := true } }
     s.ctl.halted = true ∧ pendingInterrupts s.board = 0 ∧ s.ctl.faulted = none ∧ s.ctl.stopped = false ∧ s.hostMoves = []) ∧
    (let s : State := { running false [0x00] [(0xFF0F, 0x10), (0xFFFF, 0x10)] with ctl := { Control.reset with halted := true } }
     s.ctl.halted = true ∧ pendingInterrupts s.board ≠ 0 ∧ s.ctl.ime = false) := by decide

/-- A stopped machine with P1 selecting the first four buttons and this schedule. -/
def stoppedWith (moves : List (List Byte)) : State :=
  { running false [0x00] [(0xFF00, 0x2F)] with ctl := { Control.reset with stopped := true }, hostMoves := moves }

theorem witness_FaultedAndStoppedMachinesTakeNoStep :
    ({ State.reset with ctl := { Control.reset with faulted := some ⟨0xDD, 0xC000⟩ } } : State).ctl.faulted = some ⟨0xDD, 0xC000⟩ ∧
    ((stoppedWith []).ctl.faulted = none ∧ (stoppedWith []).ctl.stopped = true ∧ (stoppedWith []).hostMoves = []) ∧
    ((stoppedWith [[]]).ctl.faulted = none ∧ (stoppedWith [[]]).hostMoves = [] :: []) ∧
    (let s : State := { running false [0x00] [] with hostMoves := [[]] }
     s.ctl.faulted = none ∧ s.hostMoves = [] :: [] ∧ ¬ s.ctl.stopped = true) ∧
    (let s := stoppedWith [[0x00, 0x01]]
     let u := setButtons 0x00 { s with hostMoves := [[0x01]] }
     s.ctl.faulted = none ∧ s.hostMoves = (0x00 :: [0x01]) :: [] ∧
     rawRead s.board 0xFF00 &&& 0x0F &&& ~~~(rawRead u.board 0xFF00) = 0) ∧
    (let s := stoppedWith [[0x01]]
     let u := setButtons 0x01 { s with hostMoves := [[]] }
     s.ctl.faulted = none ∧ s.hostMoves = (0x01 :: []) :: [] ∧
     rawRead s.board 0xFF00 &&& 0x0F &&& ~~~(rawRead u.board 0xFF00) ≠ 0) := by decide

theorem witness_EnableTakesEffectAfterTheNextInstruction :
    (let s : State := { running false [0x00] [] with ctl := { Control.reset with imeSched := true } }
     s.ctl.halted = false ∧ s.ctl.ime = false ∧ s.ctl.imeSched = true ∧ after s (fun _ => true) = true ∧ (fetch s).1 ≠ .di) ∧
    (let s : State := { running false [0xF3] [] with ctl := { Control.reset with imeSched := true } }
     s.ctl.imeSched = true ∧ after s (fun _ => true) = true ∧ (fetch s).1 = .di) ∧
    (let s := running false [0xFB] []
     s.ctl.halted = false ∧ s.ctl.ime = false ∧ s.ctl.imeSched = false ∧ after s (fun _ => true) = true) := by decide

theorem witness_IllegalOpcodesFault :
    decode [0xD3, 0x00] = .ok (.illegalD3, [0x00]) ∧ decode [0xD2, 0x00, 0x00] = .ok (.jpNcA16 0x0000, []) ∧
    (Instr.illegalFD).form = .illegal 0xFD ∧
    (let s := running false [0xED] []
     s.ctl.faulted = none ∧ s.ctl.stopped = false ∧ s.ctl.halted = false ∧ s.hostMoves = [] ∧ s.ctl.ime = false ∧
     s.region s.regs.pc ≠ .crash ∧
     busRead s s.regs.pc ∈ ([0xD3, 0xDB, 0xDD, 0xE3, 0xE4, 0xEB, 0xEC, 0xED, 0xF4, 0xFC, 0xFD] : List Byte)) := by decide

theorem witness_RegisterLoads :
    (Instr.ldBC).form = .ldRegReg .b .c ∧ (Instr.ldAA).form = .ldRegReg .a .a ∧ (Instr.ldHN8 0xFF).form = .ldRegN8 .h 0xFF := by
  decide

theorem witness_LoadsFromMemory :
    (Instr.ldHMhl).form = .ldRegMhl .h ∧ (Instr.ldAMbc).form = .ldAMbc ∧ (Instr.ldAMde).form = .ldAMde ∧
    (Instr.ldAMa16 0xFFFF).form = .ldAMa16 0xFFFF ∧ (Instr.ldhAMa8 0xFF).form = .ldhAMa8 0xFF ∧ (Instr.ldAMc).form = .ldAMc := by
  decide

theorem witness_StoresToMemory :
    (Instr.ldMhlL).form = .ldMhlReg .l ∧ (Instr.ldMhlN8 0xFF).form = .ldMhlN8 0xFF ∧ (Instr.ldMbcA).form = .ldMbcA ∧
    (Instr.ldMdeA).form = .ldMdeA ∧ (Instr.ldMa16A 0x0000).form = .ldMa16A 0x0000 ∧
    (Instr.ldhMa8A 0x00).form = .ldhMa8A 0x00 ∧ (Instr.ldMcA).form = .ldMcA := by decide

theorem witness_SteppingLoadsAndStoresMoveHl :
    (Instr.ldMhliA).form = .ldMhliA ∧ (Instr.ldMhldA).form = .ldMhldA ∧ (Instr.ldAMhli).form = .ldAMhli ∧
    (Instr.ldAMhld).form = .ldAMhld := by decide

theorem witness_PairLoads :
    (Instr.ldSpN16 0xFFFF).form = .ldR16N16 .sp 0xFFFF ∧ (Instr.ldBcN16 0x0000).form = .ldR16N16 .bc 0x0000 ∧
    (Instr.ldSpHl).form = .ldSpHl := by decide

theorem witness_StoreOfSpIsLittleEndian : (Instr.ldMa16Sp 0xFFFF).form = .ldMa16Sp 0xFFFF := by decide

theorem witness_SpPlusDisplacement :
    (Instr.ldHlSpE8 0x80).form = .ldHlSpE8 0x80 ∧ (Instr.addSpE8 0x7F).form = .addSpE8 0x7F := by decide

theorem witness_PushStoresThePair : (Instr.pushAf).form = .push .af ∧ (Instr.pushBc).form = .push .bc := by decide

theorem witness_PopLoadsThePair : (Instr.popAf).form = .pop .af ∧ (Instr.popHl).form = .pop .hl := by decide

theorem witness_AdditionsAndTheirFlags :
    aluUse State.reset (Instr.addAL).form = some ⟨.add, 0x4D, [], [0x85], 4⟩ ∧
    aluUse (running false [] [(0xC100, 0xFF)]) (Instr.adcAMhl).form = some ⟨.adc, 0xFF, [0xC100], [0x8E], 8⟩ ∧
    aluUse State.reset (Instr.adcAN8 0xFF).form = some ⟨.adc, 0xFF, [], [0xCE, 0xFF], 8⟩ ∧ State.reset.flagC = true := by
  decide

theorem witness_SubtractionsAndTheirFlags :
    aluUse State.reset (Instr.subL).form = some ⟨.sub, 0x4D, [], [0x95], 4⟩ ∧
    aluUse (running false [] [(0xC100, 0xFF)]) (Instr.sbcAMhl).form = some ⟨.sbc, 0xFF, [0xC100], [0x9E], 8⟩ ∧
    aluUse State.reset (Instr.cpN8 0xFF).form = some ⟨.cp, 0xFF, [], [0xFE, 0xFF], 8⟩ := by decide

theorem witness_LogicOperationsAndTheirFlags :
    aluUse State.reset (Instr.andL).form = some ⟨.and, 0x4D, [], [0xA5], 4⟩ ∧
    aluUse (running false [] [(0xC100, 0xFF)]) (Instr.xorMhl).form = some ⟨.xor, 0xFF, [0xC100], [0xAE], 8⟩ ∧
    aluUse State.reset (Instr.orN8 0xFF).form = some ⟨.or, 0xFF, [], [0xF6, 0xFF], 8⟩ := by decide

theorem witness_IncrementAndDecrementOfAByte :
    (Instr.incA).form = .incReg .a ∧ (Instr.decB).form = .decReg .b ∧ (Instr.incMhl).form = .incMhl ∧
    (Instr.decMhl).form = .decMhl := by decide

theorem witness_DecimalAdjust : (Instr.daa).form = .daa := by decide

theorem witness_ComplementAndCarryInstructions :
    (Instr.cpl).form = .cpl ∧ (Instr.scf).form = .scf ∧ (Instr.ccf).form = .ccf := by decide

theorem witness_AddToHl : (Instr.addHlHl).form = .addHlR16 .hl ∧ (Instr.addHlSp).form = .addHlR16 .sp := by decide

theorem witness_IncrementAndDecrementOfAPair : (Instr.incSp).form = .incR16 .sp ∧ (Instr.decBc).form = .decR16 .bc := by decide

theorem witness_RotatesAndShiftsOfARegister :
    (Instr.rlca).form = .rlca ∧ (Instr.rrca).form = .rrca ∧ (Instr.rla).form = .rla ∧ (Instr.rra).form = .rra ∧
    (Instr.swapA).form = .shiftReg .swap .a ∧ (Instr.srlB).form = .shiftReg .srl .b := by decide

theorem witness_ShiftsInMemory : (Instr.rlcMhl).form = .shiftMhl .rlc ∧ (Instr.swapMhl).form = .shiftMhl .swap := by decide

theorem witness_BitTests : (Instr.bit0B).form = .bitReg 0 .b ∧ (Instr.bit7A).form = .bitReg 7 .a ∧ (Instr.bit7Mhl).form = .bitMhl 7 := by
  decide

theorem witness_BitResetAndSet :
    (Instr.res0B).form = .resReg 0 .b ∧ (Instr.set7A).form = .setReg 7 .a ∧ (Instr.res7Mhl).form = .resMhl 7 ∧
    (Instr.set0Mhl).form = .setMhl 0 := by decide

theorem witness_JumpsGoToTheirTarget :
    (Instr.jpA16 0xFFFF).form = .jp 0xFFFF ∧ (Instr.jpZA16 0x0000).form = .jpCc .z 0x0000 ∧
    (Instr.jpNzA16 0x0000).form = .jpCc .nz 0x0000 ∧ (Instr.jpHl).form = .jpHl ∧ (Instr.jrE8 0x80).form = .jr 0x80 ∧
    (Instr.jrCE8 0x7F).form = .jrCc .c 0x7F ∧ (Instr.jrNcE8 0x7F).form = .jrCc .nc 0x7F ∧
    State.reset.holds .z = true ∧ State.reset.holds .nz = false ∧ State.reset.holds .c = true ∧ State.reset.holds .nc = false := by
  decide

theorem witness_CallsPushTheReturnAddress :
    (Instr.callA16 0xFFFF).form = .call 0xFFFF ∧ ((Instr.callZA16 0x0000).form = .callCc .z 0x0000 ∧ State.reset.holds .z = true) ∧
    ((Instr.callNcA16 0x0000).form = .callCc .nc 0x0000 ∧ State.reset.holds .nc = false) ∧
    ((Instr.rst38).form = .rst 7 ∧ (0x0038 : Word) = BitVec.ofNat 16 (8 * (7 : BitVec 3).toNat)) := by decide

theorem witness_ReturnsPopPc :
    (Instr.ret).form = .ret ∧ ((Instr.retC).form = .retCc .c ∧ State.reset.holds .c = true) ∧
    ((Instr.retNz).form = .retCc .nz ∧ State.reset.holds .nz = false) ∧ (Instr.reti).form = .reti := by decide

theorem witness_NopDiEi : (Instr.nop).form = .nop ∧ (Instr.di).form = .di ∧ (Instr.ei).form = .ei := by decide

theorem witness_HaltAndStop : (Instr.halt).form = .halt ∧ (Instr.stop 0xFF).form = .stop 0xFF := by decide

/-- A board of an MBC1 cartridge whose RAM is enabled. -/
def mbc1Board : Board := { Board.reset with cart := { mbc1 with ramEnable := true } }

/-- Every clause of the read's region map, at both ends of its range; an address under one clause is under no other. -/
theorem witness_ReadFollowsTheRegionMap :
    ({ Board.reset with bootVisible := true } : Board).bootVisible = true ∧ Board.reset.bootVisible = false ∧
    (mbc1Board.cart.kind = .mbc1 ∧ 0 < mbc1Board.cart.ramBanks ∧ mbc1Board.cart.ramEnable = true) ∧
    [0x0000, 0x00FF].map (regionOf true) = [.boot, .boot] ∧ regionOf true 0x0100 = .rom ∧
    [0x0000, 0x3FFF, 0x4000, 0x7FFF].map (regionOf false) = [.rom, .rom, .rom, .rom] ∧
    [0x8000, 0x9FFF, 0xA000, 0xBFFF].map (regionOf false) = [.vram, .vram, .extRam, .extRam] ∧
    [0xC000, 0xDFFF, 0xE000, 0xFDFF].map (regionOf false) = [.wram, .wram, .echo, .echo] ∧
    [0xFE00, 0xFE9F, 0xFEA0, 0xFEFF].map (regionOf false) = [.oam, .oam, .crash, .crash] ∧
    [0xFF00, 0xFF7F, 0xFF80, 0xFFFF].map (regionOf false) = [.io, .io, .high, .high] := by decide

/-- The same for the write. -/
theorem witness_WriteFollowsTheRegionMap :
    memWrite { Board.reset with bootVisible := true } 0x00FF 0x01 = { Board.reset with bootVisible := true } ∧
    memWrite Board.reset 0xFEA0 0x01 = Board.reset ∧ memWrite Board.reset 0xFEFF 0x01 = Board.reset ∧
    memWrite Board.reset 0xA000 0x01 = Board.reset ∧ (memWrite mbc1Board 0x7FFF 0x01).cart.bankMode = true ∧
    memRead (memWrite mbc1Board 0xBFFF 0x01) 0xBFFF = 0x01 ∧ memRead (memWrite Board.reset 0xFFFF 0x01) 0xFFFF = 0x01 ∧
    memRead (memWrite Board.reset 0xE000 0x01) 0xC000 = 0x01 := ⟨rfl, rfl, rfl, rfl, by decide⟩

/-- Both controllers; each command at both ends of its range. -/
theorem witness_BankControllerCommands :
    Cartridge.unloaded.kind = .none ∧ mbc1.kind = .mbc1 ∧ 0 < mbc1.ramBanks ∧
    (mbc1.bankWrite 0x0000 0x0A).ramEnable = true ∧ (mbc1.bankWrite 0x1FFF 0x0A).ramEnable = true ∧
    (mbc1.bankWrite 0x2000 0x1F).bankLo = 0x1F ∧ (mbc1.bankWrite 0x3FFF 0x00).bankLo = 1 ∧
    (mbc1.bankWrite 0x4000 0x03).bankHi = 3 ∧ (mbc1.bankWrite 0x5FFF 0x03).bankHi = 3 ∧
    (mbc1.bankWrite 0x6000 0x01).bankMode = true ∧ (mbc1.bankWrite 0x7FFF 0x01).bankMode = true := by decide

theorem witness_LcdSwitchAndLineCompare :
    ((rawRead (board []) 0xFF40).getLsbD 7 = true ∧ (0x11 : Byte).getLsbD 7 = false) ∧
    ((rawRead (board [(0xFF40, 0x00)]) 0xFF40).getLsbD 7 = false ∧ (0x91 : Byte).getLsbD 7 = true) ∧
    ((rawRead (board []) 0xFF40).getLsbD 7 = true ∧ (0x80 : Byte).getLsbD 7 = true) ∧
    rawRead (board []) 0xFF44 = 0x00 := by decide

theorem witness_DmaCopiesAPageIntoOam :
    (0xDF : Byte).toNat < 0xE0 ∧ (0xFF40 : Word) ≠ 0xFF46 ∧ ¬ ((0xFE00 : Word) ≤ 0xFF40 ∧ (0xFF40 : Word) ≤ 0xFE9F) := by decide

theorem witness_SoundPowerGate :
    (rawRead (board [(0xFF26, 0x00)]) 0xFF26).getLsbD 7 = false ∧ (0x80 : Byte).getLsbD 7 = true ∧
    (rawRead (board []) 0xFF26).getLsbD 7 = true ∧ (0x00 : Byte).getLsbD 7 = false ∧
    ([0xFF10, 0xFF14, 0xFF16, 0xFF1E, 0xFF20, 0xFF25].all fun a : Word =>
      decide (0xFF10 ≤ a ∧ a ≤ 0xFF25 ∧ a ≠ 0xFF15 ∧ a ≠ 0xFF1F)) = true ∧
    ([0xFF15, 0xFF1F, 0xFF30, 0xFF3F].all fun a : Word =>
      decide (0xFF30 ≤ a ∧ a ≤ 0xFF3F ∨ a = 0xFF15 ∨ a = 0xFF1F)) = true := by decide

/-- TAC off; TAC on with TIMA just below, and at, an overflow within these 16 cycles. -/
theorem witness_TimerCountsCycles :
    (rawRead (board [(0xFF07, 0x01)]) 0xFF07).getLsbD 2 = false ∧ (rawRead (board [(0xFF07, 0x05)]) 0xFF07).getLsbD 2 = true ∧
    254 + (0 + 16) / 16 < 256 ∧ (256 ≤ 255 + (0 + 16) / 16 ∧ 255 + (0 + 16) / 16 < 512 - 0x80) := by decide

/-- A board in mode `m`, its STAT showing it over these upper bits. -/
def inMode (m : PpuMode) (acc : Nat) (ly : Byte) (stat : Byte := 0x80) : Board :=
  { board [(0xFF0F, 0xE0), (0xFF41, stat ||| m.code), (0xFF44, ly), (0xFF45, 0xFF)] with
    ppu := { Board.reset.ppu with mode := m, acc := acc } }

/-- Each mode, one cycle before its end and at its end, without and with the request of the mode entered. -/
theorem witness_PpuModesFollowOneAnother :
    (∀ m, (rawRead (inMode m 0 143) 0xFF40).getLsbD 7 = true ∧ StatModeOk (inMode m 0 143)) ∧
    (ppuStep 4 (inMode .oamSearch 75 0)).ppu.mode = .oamSearch ∧
    ([(.hblank, 200, 142, 0x20), (.hblank, 200, 143, 0x10), (.hblank, 200, 143, 0x08), (.vblank, 452, 152, 0x10),
      (.vblank, 452, 153, 0x20)].map fun (m, acc, ly, stat) =>
        let t := ppuStep 4 (inMode m acc ly stat)
        (t.ppu.mode, rawRead t 0xFF0F)) =
      [(.oamSearch, 0xE2), (.vblank, 0xE3), (.vblank, 0xE1), (.vblank, 0xE0), (.oamSearch, 0xE2)] := by
  refine ⟨?_, by decide⟩
  intro m
  unfold StatModeOk
  cases m <;> decide

/-- Entry 10 covers the line and is not taken: ten stand before it. -/
theorem witness_OamSearchTakesTheFirstTen :
    (elevenSprites.byteAt (0xFE00 + 4 * 10)).toNat ≤ 0 + 16 ∧ 0 + 16 < (elevenSprites.byteAt (0xFE00 + 4 * 10)).toNat + 8 ∧
    10 ∉ oamSearch elevenSprites 0 := by decide

/-- Two sprites at the same X, the same tile, listed for the line; the pixel at column 0 is opaque in both. -/
def twoSprites (lcdc : Byte) : Board :=
  { board [(0x8000, 0xFF), (0x8001, 0x00), (0xFE00, 16), (0xFE01, 8), (0xFE02, 0), (0xFE03, 0), (0xFE04, 16), (0xFE05, 8),
           (0xFE06, 0), (0xFE07, 0x10), (0xFF40, lcdc)] with ppu := { Board.reset.ppu with spriteList := [0, 1] } }

theorem witness_SpritePriority :
    lcdcBit (twoSprites 0x91) 1 = false ∧
    (lcdcBit (board [(0xFF40, 0x93)]) 1 = true ∧
      (board [(0xFF40, 0x93)]).ppu.spriteList.filterMap (spritePixel (board [(0xFF40, 0x93)]) 0 0) = []) ∧
    (lcdcBit (twoSprites 0x93) 1 = true ∧
      (twoSprites 0x93).ppu.spriteList.filterMap (spritePixel (twoSprites 0x93) 0 0) = [⟨8, 1, 0x00⟩, ⟨8, 1, 0x10⟩]) ∧
    winningSprite (twoSprites 0x93) 0 0 = some ⟨8, 1, 0x00⟩ := by decide

/-- Background, and a window whose left edge is column 0 (WX = 7) or hidden (WX = 167), at the top line; the columns at
both ends of sprite 0, and its first and last line. -/
theorem witness_SpritePriority_picture :
    (let window (lcdc wx : Byte) : Board := board [(0xFF40, lcdc), (0xFF4A, 0x00), (0xFF4B, wx)]
    let here (s : Board) : Prop :=
      lcdcBit s 5 = true ∧ lcdcBit s 0 = true ∧ (rawRead s 0xFF4A).toNat ≤ 0 ∧ (rawRead s 0xFF4B).toNat ≤ 166
    let sy := (oamByte (twoSprites 0x93) 0 0).toNat
    let sx := (oamByte (twoSprites 0x93) 0 1).toNat
    lcdcBit (window 0xB0 7) 0 = false ∧
    (here (window 0xB1 7) ∧ (rawRead (window 0xB1 7) 0xFF4B).toNat ≤ 0 + 7) ∧
    (lcdcBit (window 0xB1 167) 0 = true ∧ ¬ here (window 0xB1 167)) ∧
    (0 < sx ∧ sx ≤ 0 + 8 ∧ 7 < sx ∧ sx ≤ 7 + 8 ∧ ¬ (8 < sx ∧ sx ≤ 8 + 8)) ∧
    (sy ≤ 0 + 16 ∧ 0 + 16 < sy + 8 ∧ sy ≤ 7 + 16 ∧ 7 + 16 < sy + 8) ∧
    winningSprite (twoSprites 0x91) 0 0 = none) ∧
    0 < (twoSprites 0x93).ppu.framebuffer.length := by
  refine ⟨by decide, ?_⟩
  show 0 < (List.replicate 144 (List.replicate 160 (0 : Shade))).length
  rw [List.length_replicate]
  decide

/-- The trigger, for every channel and for channel 1 with a sweep over 2047; a length counter at 1, and one not counted. -/
theorem witness_TriggerAndLengthCounter :
    ((rawRead (board []) 0xFF26).getLsbD 7 = true ∧ (0x80 : Byte).getLsbD 7 = true) ∧
    (let s := board [(0xFF10, 0x11), (0xFF13, 0xFF), (0xFF14, 0x87)]
     (rawRead s 0xFF26).getLsbD 7 = true ∧ (rawRead (memWrite s 0xFF14 0x87) 0xFF26).getLsbD 0 = false) ∧
    (let s : Board := { board [(0xFF19, 0x40)] with apu := { Apu.off with ch2 := ⟨true, 0, 1⟩ } }
     (rawRead s Chan.two.nrx4).getLsbD 6 = true ∧ 0 < (s.apu.channel .two).len) ∧
    ¬ ((rawRead (board []) Chan.two.nrx4).getLsbD 6 = true ∧ 0 < ((board []).apu.channel .two).len) := by decide

/-- A board before this tick of the frame sequencer, channel 1's sweep about to run out. -/
def sweeping (k : BitVec 3) (nr10 : Byte) (shadow : BitVec 11) (p : Apu := Apu.off) : Board :=
  { board [(0xFF10, nr10), (0xFF12, 0xF9), (0xFF17, 0xF1), (0xFF14, 0x40), (0xFF21, 0x00)] with
    apu := { p with fsStep := k, sweep := ⟨shadow, 1, true⟩ } }

/-- One tick: the length counters count or not, and one runs out; the three ways of the envelope; the sweep stores,
disables by its first or its second check, or does nothing. -/
theorem witness_TriggerAndLengthCounter_tick :
    let counting : Board := sweeping 0 0x00 0 { Apu.off with ch1 := ⟨true, 0, 1⟩ }
    let env : Board := sweeping 7 0x00 0 { Apu.off with env1 := ⟨14, 1, true⟩, env2 := ⟨0, 1, true⟩, env4 := ⟨3, 2, true⟩ }
    let ends (s : Board) : Nat × Bool :=
      ((frameSequencerTick s).apu.sweep.shadow.toNat, (frameSequencerTick s).apu.ch1.en)
    let on : Apu := { Apu.off with ch1 := ⟨true, 0, 0⟩ }
    (counting.apu.fsStep.toNat % 2 = 0 ∧ (rawRead counting 0xFF14).getLsbD 6 = true ∧ (counting.apu.channel .one).len = 1 ∧
      (rawRead counting 0xFF19).getLsbD 6 = false) ∧
    (env.apu.fsStep.toNat = 7 ∧ (frameSequencerTick env).apu.env1 = ⟨15, 1, true⟩ ∧
      (frameSequencerTick env).apu.env2 = ⟨0, 1, false⟩ ∧ (frameSequencerTick env).apu.env4 = ⟨3, 2, true⟩) ∧
    ends (sweeping 2 0x11 0x400 on) = (0x600, false) ∧ ends (sweeping 6 0x19 0x400 on) = (0x200, true) ∧
    ends (sweeping 2 0x11 0x7FF on) = (0x7FF, false) ∧ ends (sweeping 2 0x10 0x200 on) = (0x200, true) ∧
    ends (sweeping 4 0x11 0x400 on) = (0x400, true) := by decide

/-- One cycle: power off and on, the 8192nd cycle, a sample due and not, a timer at 1 and at 2; the digital output of an
enabled channel at a high and at a low duty position. -/
theorem witness_TriggerAndLengthCounter_cycle :
    let s (nr52 : Byte) (p : Apu) : Board := { board [(0xFF11, 0x80), (0xFF26, nr52)] with apu := p }
    let two : Apu := { Apu.off with ch1 := ⟨true, 1, 0⟩, ch2 := ⟨true, 2, 0⟩, env1 := ⟨9, 0, false⟩ }
    (rawRead (s 0x00 two) 0xFF26).getLsbD 7 = false ∧ (rawRead (s 0x80 two) 0xFF26).getLsbD 7 = true ∧
    { two with fsAcc := 8191 }.fsAcc + 1 = 8192 ∧
    { two with dsAcc := (s 0x80 two).params.apuDownsample - 1 }.dsAcc + 1 = (s 0x80 two).params.apuDownsample ∧
    two.dsAcc + 1 ≠ (s 0x80 two).params.apuDownsample ∧
    ((s 0x80 two).apu.channel .one).timer ≤ 1 ∧ ¬ ((s 0x80 two).apu.channel .two).timer ≤ 1 ∧
    (apuStep 1 (s 0x80 two)).apu.duty1 = 1 ∧
    digitalOutput (s 0x80 two) .one = 9 ∧ digitalOutput (s 0x80 { two with duty1 := 1 }) .one = 0 := by decide

theorem witness_SamplesStayInRange : (rawRead (board [(0xFF26, 0x00)]) 0xFF26).getLsbD 7 = false := by decide

/-- A press that pulls a selected line low, and one that does not. -/
theorem witness_ButtonsDriveTheJoypadLines :
    (let s := running false [] [(0xFF00, 0x2F)]
     (rawRead s.board 0xFF00).getLsbD 0 = true ∧ (rawRead (setButtons 0x01 s).board 0xFF00).getLsbD 0 = false) ∧
    (let s := running false [] [(0xFF00, 0x2F)]
     ∀ n < 4, ¬ ((rawRead s.board 0xFF00).getLsbD n = true ∧ (rawRead (setButtons 0x10 s).board 0xFF00).getLsbD n = false)) := by
  decide

/-- The reset state with a NOP to run: it goes on, and it meets the invariants. -/
def nopAtReset : State := State.reset.withFetchWord 8 0x00

/-- The ranges of the reset statement's clauses. -/
theorem witness_ResetValues :
    (bootLogo (0x8000 : Word).toNat = false ∧ bootLogo (0x9FFF : Word).toNat = false ∧ bootLogo (0x81A0 : Word).toNat = false) ∧
    ([0xFF00, 0xFF2F, 0xFF40, 0xFF7F, 0xFFFF].all fun a : Word =>
      decide (0xFF00 ≤ a ∧ a ≤ 0xFF2F ∨ 0xFF40 ≤ a ∧ a ≤ 0xFF7F ∨ a = 0xFFFF)) = true := by decide

theorem witness_EveryStepKeepsStoresFlagsAndBank :
    afterStep nopAtReset (fun _ => true) = true ∧ MemoryOk nopAtReset.board ∧ FlagsOk nopAtReset ∧ BankOk nopAtReset.board := by
  refine ⟨by decide, ?_, ?_, ?_⟩
  · unfold MemoryOk; decide
  · unfold FlagsOk; decide
  · unfold BankOk; decide

theorem witness_EveryStepKeepsTheMirrorsCurrent :
    afterStep nopAtReset (fun _ => true) = true ∧ JoypadOk nopAtReset.board ∧ StatModeOk nopAtReset.board ∧
    SoundStatusOk nopAtReset.board := by
  refine ⟨by decide, ?_, ?_, ?_⟩
  · unfold JoypadOk; decide
  · unfold StatModeOk; decide
  · intro ch; cases ch <;> decide

theorem witness_EveryStepKeepsLineAndMode : LineOk nopAtReset.board ∧ afterStep nopAtReset (fun _ => true) = true := by
  refine ⟨?_, by decide⟩
  show (if lcdcBit nopAtReset.board 7 = true then rawRead nopAtReset.board Io.ly = 0 ∨ _ else _)
  rw [if_pos (by decide)]
  exact .inl (by decide)

theorem witness_EveryStepKeepsTheCoincidenceBit : CoincidenceOk nopAtReset.board ∧ afterStep nopAtReset (fun _ => true) = true := by
  refine ⟨?_, by decide⟩
  unfold CoincidenceOk; decide

theorem witness_EveryStepKeepsFrameAndAccumulators :
    afterStep nopAtReset (fun _ => true) = true ∧ FrameOk nopAtReset.board ∧ AccumulatorsOk nopAtReset.board := by
  refine ⟨by decide, ⟨rfl, ?_, by decide, by decide⟩, ?_⟩
  · intro row h
    rw [List.eq_of_mem_replicate (show row ∈ List.replicate 144 (List.replicate 160 (0 : Shade)) from h), List.length_replicate]
  · unfold AccumulatorsOk; decide

theorem witness_ImagesAndParametersNeverChange :
    afterStep nopAtReset (fun _ => true) = true ∧ nopAtReset.board.bootVisible = false := by decide

/-- By RETI, and after an instruction that follows EI. -/
theorem witness_OnlyRetiAndEiEnableInterrupts :
    (let s := running false [0xD9] [(0xDFF0, 0x00), (0xDFF1, 0xC0)]
     s.ctl.ime = false ∧ afterStep s (fun t => t.ctl.ime) = true) ∧
    (let s : State := { running false [0x00] [] with ctl := { Control.reset with imeSched := true } }
     s.ctl.ime = false ∧ afterStep s (fun t => t.ctl.ime) = true) := by decide

end Sys2Proof.Tests
end

section
/-! The scope family (spec/00_scope.md): what no step changes, and how a step of a running machine reaches `exec`
(R7, R142, R330). -/

namespace Sys2Proof.Machine

/-! ## What no step changes (R10, R40, R64, R65, R117) -/

/-- A step leaves the images, the header's facts and the parameters alone, and never shows the boot region again. -/
theorem sameParts_step {s t : State} (h : step s = .next t) : SameParts s.board t.board :=
  (kept_sameParts s.board).step h (SameParts.refl s.board)

/-- Settles O59: whatever happens to the board in a step is a read, a checked write, a press of the buttons or a
peripheral's catching up, and each of them keeps these parts. -/
theorem imagesAndParametersNeverChange : Obligations.ImagesAndParametersNeverChange := by
  intro s t h
  have k := sameParts_step h
  exact ⟨k.bootRom, k.rom, k.nbanks, k.ramBanks, k.kind, k.params, k.hidden⟩

/-! ## The fetch agrees with the decoder (R142) -/

/-- Only a read of the crash region leaves a trace (R69, R70). -/
theorem afterRead_of_not_crash {s : State} {a : Word} (h : s.region a ≠ .crash) : afterRead s a = s := by
  have hb : afterMemRead s.board a = s.board := by
    unfold afterMemRead
    split
    case h_1 hcrash => exact absurd hcrash h
    all_goals rfl
  rw [afterRead, hb]

/-- Fetching is decoding the opcode and the two bytes at the operand address, if none of them is in the crash region:
both take as many bytes as the opcode's length asks for (R142, R158). -/
theorem fetch_eq_of_decode {s : State} {i : Instr} {rest : List Byte} (hpc : s.region s.regs.pc ≠ .crash)
    (hop1 : s.region (operandAddress s) ≠ .crash) (hop2 : s.region (operandAddress s + 1) ≠ .crash)
    (hd : decode [busRead s s.regs.pc, busRead s (operandAddress s), busRead s (operandAddress s + 1)] = .ok (i, rest)) :
    fetch s = (i, s) := by
  simp only [fetch, afterRead_of_not_crash, hpc, hop1, hop2, ne_eq, not_false_eq_true]
  simp only [decode] at hd
  by_cases h1 : lengthOf (busRead s s.regs.pc) = 1
  · rw [if_pos h1] at hd ⊢
    cases hd; rfl
  · rw [if_neg h1] at hd ⊢
    by_cases h2 : lengthOf (busRead s s.regs.pc) = 2
    · rw [if_pos h2] at hd ⊢
      cases hd; rfl
    · rw [if_neg h2] at hd ⊢
      cases hd; rfl

/-! ## A running machine (R7, R330) -/

/-- A machine that is neither faulted nor stopped, with no move of the host scheduled, takes a system step (R7). -/
theorem step_eq_systemStep {s : State} (hf : s.ctl.faulted = none) (hs : s.ctl.stopped = false)
    (hm : s.hostMoves = []) : step s = systemStep s := by
  have ht : hostTurn s = s := by rw [hostTurn, hm]
  simp only [step, machineStep, hf, ht, hs, Bool.false_eq_true, if_false]

/-- A machine that is not halted, with no interrupt to take, runs an instruction (R330). -/
theorem cpuStep_eq_runInstruction {s : State} (hh : s.ctl.halted = false)
    (hi : s.ctl.ime = false ∨ pendingInterrupts s.board = 0) : cpuStep s = runInstruction s := by
  have hw : wake s = s := by rw [wake, ← hh]
  have hn : ¬ (s.ctl.ime = true ∧ pendingInterrupts s.board ≠ 0) := by
    rintro ⟨him, hp⟩
    rcases hi with h | h
    · rw [h] at him; cases him
    · exact hp h
  simp only [cpuStep, hh, Bool.false_eq_true, false_and, if_false, if_neg hn, hw]

/-- Settles O4: the system step is the CPU step and the peripherals' catching up, the CPU step runs the fetched
instruction, and the fetch reads what the decoder reads. -/
theorem stepRunsTheDecodedInstruction : Obligations.StepRunsTheDecodedInstruction := by
  intro s i rest hfaulted hstopped hhalted hbug hmoves hirq hpc hpc1 hpc2 hd
  have ha : operandAddress s = s.regs.pc + 1 := by simp [operandAddress, hbug]
  have ha1 : operandAddress s + 1 = s.regs.pc + 2 := by rw [ha]; bv_omega
  have hfetch : fetch s = (i, s) :=
    fetch_eq_of_decode hpc (ha ▸ hpc1) (ha1 ▸ hpc2) (by rw [ha1, ha]; exact hd)
  rw [step_eq_systemStep hfaulted hstopped hmoves, systemStep, cpuStep_eq_runInstruction hhalted hirq, runInstruction,
    hfetch]
  cases exec i s with
  | next t => simp only [enableAfter_clock]
  | fault r => rfl
  | refused r => rfl

end Sys2Proof.Machine
end

section
/-! The state family (spec/10_state.md), the stores: canonical form, `F[3:0]`, `bank_lo` (R23, R39, R97, R99). -/

namespace Sys2Proof.Machine

/-! ## `bank_lo` is written by the bank controller alone (R96, R99) -/

/-- No I/O write reaches the cartridge (R110). -/
theorem ioWrite_cart (a : Word) (v : Byte) (s : Board) : (ioWrite a v s).cart = s.cart := by
  rcases ioWrite_cases a v s with ⟨_, e⟩ | ⟨_, e⟩ | ⟨_, e⟩ | ⟨_, e⟩ | ⟨_, e⟩ | ⟨_, e⟩ | ⟨_, e⟩ | ⟨_, e⟩ | ⟨_, e⟩ |
    ⟨_, e⟩ | ⟨_, e⟩ <;> rw [e]
  · exact (touches_writeP1 v s).cart
  · exact (touches_writeDiv s).cart
  · exact (touches_writeTac v s).cart
  · exact (touches_apuWrite a v s).cart
  · exact (touches_writeLcdc v s).cart
  · exact (touches_writeStat v s).cart
  · exact (touches_writeLyc v s).cart
  · rw [(writeDma_frame v s).1]
  · rfl
  · rfl

theorem bankOk_memWrite {s : Board} (a : Word) (v : Byte) (h : BankOk s) : BankOk (memWrite s a v) := by
  unfold memWrite
  cases s.region a <;> dsimp only
  case rom => exact (bankWrite_frame s.cart a v).2 h
  case extRam => rw [(extRamWrite_frame s a v).1]; exact h
  case io => unfold BankOk; rw [ioWrite_cart]; exact h
  all_goals exact h

/-- Outside the bank controller nothing reaches the cartridge (R12, R40). -/
theorem kept_bankOk : Kept BankOk where
  read s a h := by unfold BankOk; rw [afterMemRead_cart]; exact h
  write s a v h := bankOk_memWrite a v h
  press s b h := by unfold BankOk; rw [(touches_pressButtons b s).cart]; exact h
  timer s n h := by unfold BankOk; rw [(touches_timerStep n s).cart]; exact h
  ppu s n h := by unfold BankOk; rw [(touches_ppuStep n s).cart]; exact h
  apu s n h := by unfold BankOk; rw [(touches_apuStep n s).cart]; exact h

/-! ## The stores and `F` -/

theorem memoryOk_of_sameParts {s t : Board} (k : SameParts s t) (h : MemoryOk s) : MemoryOk t := by
  obtain ⟨hmem, hboot, hrom, hram⟩ := h
  exact ⟨k.wf hmem, by rw [k.bootRom]; exact hboot, by rw [k.rom]; exact hrom, k.ramWf hram⟩

/-- `F` moves in the CPU step only, and every way a CPU step goes keeps its low nibble (R23). -/
theorem flagsOk_step {s t : State} (h : step s = .next t) (hs : FlagsOk s) : FlagsOk t := by
  obtain ⟨_, hregs, _, _⟩ := hostTurn_frame s
  have ht : FlagsOk (hostTurn s) := by unfold FlagsOk; rw [hregs]; exact hs
  rcases (step_cases h).2 with ⟨_, _, rfl⟩ | ⟨_, u, hu, rfl⟩
  · exact ht
  · exact (did_cpuStep hu).flags ht

/-- Settles O54: a step keeps the images and writes the other stores in canonical form, every instruction packs or masks
`F`, and the bank controller never stores 0 in `bank_lo`. -/
theorem everyStepKeepsStoresFlagsAndBank : Obligations.EveryStepKeepsStoresFlagsAndBank := by
  intro s t h
  exact ⟨memoryOk_of_sameParts (sameParts_step h), flagsOk_step h, kept_bankOk.step h⟩

end Sys2Proof.Machine
end

section
/-! The state family (spec/10_state.md), the control bits: IME and its delayed enable, HALT, STOP, the illegal opcodes,
what a faulted and a stopped machine do (R30 to R35, R311 to R316, R326, R330, R346). -/

namespace Sys2Proof.Machine

/-! ## What an instruction does to IME (R30, R31) -/

/-- RETI sets IME, DI clears it, every other form leaves it (R300, R313, R314). -/
theorem ime_runForm {f : Form} {s t : State} (hp : ∀ op, f ≠ .prefixCb op) (h : runForm f s = .next t) :
    t.ctl.ime = if f = .reti then true else if f = .di then false else s.ctl.ime := by
  cases f
  case prefixCb op => exact absurd rfl (hp op)
  case halt | jpCc | jrCc | retCc | callCc =>
    simp only [runForm, halt, jpCc, jrCc, retCc, callCc] at h
    split at h <;> cases h <;> rfl
  case illegal => cases h
  all_goals
    cases h
    simp [loadReg, State.incFlags, State.decFlags, State.shiftFlags, State.bitFlags, State.jumpBy, State.callTo,
      State.returnTo, push16_eq, afterPop_eq, returnFromInterrupt_eq]

/-- The same of an instruction; a prefixed one is neither RETI nor DI (R315). -/
theorem ime_exec {i : Instr} {s t : State} (h : exec i s = .next t) :
    t.ctl.ime = if i.form = .reti then true else if i.form = .di then false else s.ctl.ime := by
  rw [exec_form] at h
  by_cases hp : ∃ op, i.form = .prefixCb op
  · obtain ⟨op, hp⟩ := hp
    obtain ⟨f, hf, hk⟩ := runCb_eq op
    rw [hp, show runForm (.prefixCb op) s = runForm f s from hf s] at h
    have hne : (∀ op, f ≠ .prefixCb op) ∧ f ≠ .reti ∧ f ≠ .di := by
      refine ⟨?_, ?_, ?_⟩ <;> intros <;> rintro rfl <;> simp at hk
    rw [ime_runForm hne.1 h, hp]
    simp [hne.2.1, hne.2.2]
  · exact ime_runForm (fun op e => hp ⟨op, e⟩) h

/-- One row alone is RETI (R161). -/
theorem form_eq_reti {i : Instr} (h : i.form = .reti) : i = .reti := by
  cases i <;> cases h
  rfl

/-! ## The CPU step and the system step -/

/-- One instruction that completes: the meaning of the fetched instruction, then what an `EI` before it left to do. -/
theorem runInstruction_next {s t : State} (h : runInstruction s = .next t) :
    ∃ u, exec (fetch s).1 (fetch s).2 = .next u ∧ t = enableAfter s.ctl.imeSched (fetch s).1 u := by
  unfold runInstruction at h
  dsimp only at h
  split at h
  · rename_i u hu; cases h; exact ⟨u, hu, rfl⟩
  · cases h
  · cases h

theorem fetch_ctl (s : State) : (fetch s).2.ctl = s.ctl := by rw [(reaches_fetch s).2]

/-- A CPU step raises IME only by RETI, or by the delayed enable of an `EI` (R31, R330). -/
theorem cpuStep_raises_ime {s t : State} (h : cpuStep s = .next t) (hs : s.ctl.ime = false) (ht : t.ctl.ime = true) :
    s.ctl.imeSched = true ∨ (fetch (wake s)).1 = .reti := by
  rcases cpuStep_cases h with ⟨_, _, rfl⟩ | ⟨him, _⟩ | ⟨_, _, u, hu, rfl⟩
  · exact absurd (hs.symm.trans ht) (by decide)
  · exact absurd (hs.symm.trans him) (by decide)
  · cases hsched : s.ctl.imeSched
    · rw [hsched] at ht
      have hi : u.ctl.ime = true := ht
      rw [ime_exec hu, fetch_ctl] at hi
      refine .inr (form_eq_reti ?_)
      by_contra hne
      rw [if_neg hne] at hi
      split at hi
      · cases hi
      · exact absurd (hs.symm.trans hi) (by decide)
    · exact .inl rfl

/-- Settles O60: the host's turn and the peripherals touch neither IME nor the clock, so both clauses are about the CPU
step. -/
theorem onlyRetiAndEiEnableInterrupts : Obligations.OnlyRetiAndEiEnableInterrupts := by
  intro s t h
  obtain ⟨_, _, hclock, hctl⟩ := hostTurn_frame s
  have hime : (hostTurn s).ctl.ime = s.ctl.ime := by rw [hctl]
  have hsched : (hostTurn s).ctl.imeSched = s.ctl.imeSched := by rw [hctl]
  rcases (step_cases h).2 with ⟨_, _, rfl⟩ | ⟨_, u, hu, rfl⟩
  · refine ⟨fun h0 h1 => absurd (h0.symm.trans (hime.symm.trans h1)) (by decide), hclock.ge, ?_⟩
    omega
  · obtain ⟨hlo, hhi⟩ := (did_cpuStep hu).clock
    have hc : (stepPeripherals (u.clock - (hostTurn s).clock) u).clock = u.clock := rfl
    refine ⟨fun h0 h1 => ?_, by omega, by omega⟩
    rw [← hsched]
    exact cpuStep_raises_ime hu (hime.trans h0) h1

/-- Settles O9: the instruction runs first, and only DI keeps the delayed enable from taking effect. -/
theorem enableTakesEffectAfterTheNextInstruction : Obligations.EnableTakesEffectAfterTheNextInstruction := by
  intro s t hhalted hirq h
  rw [cpuStep_eq_runInstruction hhalted hirq] at h
  obtain ⟨u, hu, rfl⟩ := runInstruction_next h
  refine ⟨fun hsched => ?_, fun hsched => ?_⟩
  · rw [hsched]
    refine ⟨rfl, fun hne => if_neg hne, fun hdi => ?_⟩
    have hu0 : u.ctl.ime = false := by rw [ime_exec hu, hdi]; rfl
    exact (if_pos hdi).trans hu0
  · rw [hsched]; exact hu

/-! ## A faulted and a stopped machine (R33, R35, R312, R346) -/

/-- A faulted machine answers its fault again (R35). -/
theorem step_of_faulted {s : State} {r : IllegalRecord} (h : s.ctl.faulted = some r) :
    step s = .fault (.illegalOpcode r.op r.pc0 s) := by
  simp only [step, machineStep, h]

/-- With a list of moves left to make, the step is decided by the machine after the host's turn (R312, R465). -/
theorem step_of_hostMoves {s : State} (hf : s.ctl.faulted = none) (hm : s.hostMoves ≠ []) :
    step s = if (hostTurn s).ctl.stopped = true then .next (hostTurn s) else systemStep (hostTurn s) := by
  simp only [step, machineStep, hf]
  cases hcons : s.hostMoves with
  | nil => exact absurd hcons hm
  | cons bs ms => rfl

/-- What `SetButtons` leaves in P1 (R346). -/
theorem rawRead_pressButtons_p1 (b : Byte) (s : Board) : rawRead (pressButtons b s) Io.p1 = p1Value (rawRead s Io.p1) b := by
  unfold pressButtons requestInterrupt
  dsimp only
  split
  · rw [rawRead_rawWrite_other _ _ (by decide), rawRead_rawWrite_same]
  · exact rawRead_rawWrite_same _ _ _

theorem low_nibble_eq_zero : ∀ w : Byte, w.extractLsb' 0 4 = 0 ↔ w &&& 0x0F = 0 := by decide

/-- No line falls when no bit of P1's low nibble that was 1 is 0 after the move (R346). -/
theorem lineFalls_eq_false_iff (b : Byte) (s : Board) :
    lineFalls b s = false ↔ rawRead s Io.p1 &&& 0x0F &&& ~~~ (rawRead (pressButtons b s) Io.p1) = 0 := by
  have low (x y : Byte) : x.extractLsb' 0 4 &&& ~~~ (y.extractLsb' 0 4) = 0 ↔ x &&& 0x0F &&& ~~~ y = 0 := by
    rw [← BitVec.extractLsb'_not_of_lt (by decide), ← BitVec.extractLsb'_and, low_nibble_eq_zero, BitVec.and_assoc,
      BitVec.and_assoc, BitVec.and_comm (~~~ y)]
  rw [rawRead_pressButtons_p1]
  simp only [lineFalls, ne_eq, low, decide_eq_false_iff_not, not_not]

/-- Settles O8: the step looks at the fault record, then makes the host's moves, then asks whether the machine is still
stopped; one move is a `SetButtons`, and a falling line ends the stop. -/
theorem faultedAndStoppedMachinesTakeNoStep : Obligations.FaultedAndStoppedMachinesTakeNoStep := by
  refine ⟨fun s r hr => step_of_faulted hr, fun s hf hs hm => ?_, fun s ms hf hm => ?_, fun s b bs ms hm => ?_⟩
  · have ht : hostTurn s = s := by rw [hostTurn, hm]
    simp only [step, machineStep, hf, ht, hs, hm, if_true]
  · have ht : hostTurn s = { s with hostMoves := ms } := by rw [hostTurn, hm]; rfl
    rw [step_of_hostMoves hf (by simp [hm]), ht]
  · intro u
    refine ⟨fun hf => ?_, ?_⟩
    · have ht : hostTurn s = hostTurn u := by rw [hostTurn, hm]; rfl
      have hu : u.hostMoves ≠ [] := List.cons_ne_nil bs ms
      rw [step_of_hostMoves hf (by simp [hm]), ht]
      exact (step_of_hostMoves (s := u) hf hu).symm
    · have hl := lineFalls_eq_false_iff b s.board
      have hctl : u.ctl = { s.ctl with stopped := s.ctl.stopped && !lineFalls b s.board } := rfl
      rw [hctl]
      cases hfall : lineFalls b s.board
      · rw [Bool.not_false, Bool.and_true]
        exact (if_pos (hl.mp hfall)).symm
      · rw [Bool.not_true, Bool.and_false]
        exact (if_neg fun h0 => absurd (hfall.symm.trans (hl.mpr h0)) (by decide)).symm

/-! ## The illegal opcodes (R156, R316, R326) -/

/-- The bytes the spec lists as illegal (R156). -/
def illegalBytes : List Byte := [0xD3, 0xDB, 0xDD, 0xE3, 0xE4, 0xEB, 0xEC, 0xED, 0xF4, 0xFC, 0xFD]

/-- The byte of an illegal row. -/
def illegalByte : Form → Option Byte
  | .illegal op => some op
  | _ => none

theorem form_eq_illegal_iff {f : Form} {op : Byte} : f = .illegal op ↔ illegalByte f = some op := by
  cases f <;> simp [illegalByte]

/-- The cells of a grid under `f`, as lists: these compute while a cell still has a free operand. -/
def gridMap {α β : Type} (f : α → β) (g : Vector (Vector α 16) 16) : List (List β) :=
  g.toList.map fun row => row.toList.map f

theorem gridMap_cell {α β : Type} (g : Vector (Vector α 16) 16) (f : α → β) (op : Byte) :
    (gridMap f g)[(op.extractLsb' 4 4).toNat]?.bind (·[(op.extractLsb' 0 4).toNat]?) = some (f (gridCell g op)) := by
  have hrow := (op.extractLsb' 4 4).isLt
  have hcol := (op.extractLsb' 0 4).isLt
  simp only [gridMap, gridCell, List.getElem?_map, Vector.getElem?_toList, Vector.getElem?_eq_getElem hrow,
    Vector.getElem?_eq_getElem hcol, Option.map_some, Option.bind_some]

/-- Whether a row is illegal does not depend on its operands. -/
theorem mainGrid_illegalByte (byte1 byte2 : Byte) :
    gridMap (fun cell => illegalByte (cell byte1 byte2).form) mainGrid =
      gridMap (fun cell => illegalByte (cell 0 0).form) mainGrid := rfl

/-- The illegal cells of the grid of R162, by first byte. -/
theorem mainGrid_illegal_cells : ∀ op : Byte,
    illegalByte (gridCell mainGrid op 0 0).form = if op ∈ illegalBytes then some op else none := by decide

/-- No cell of the grid of R164 is illegal. -/
theorem cbGrid_legal : ∀ op : Byte, illegalByte (gridCell cbGrid op).form = none := by decide

/-- A first byte has an illegal row exactly when the spec lists it, whatever bytes follow (R156). -/
theorem decodeBytes_illegalByte (op byte1 byte2 : Byte) :
    illegalByte (decodeBytes op byte1 byte2).form = if op ∈ illegalBytes then some op else none := by
  unfold decodeBytes
  split
  · rename_i hcb; subst hcb; exact cbGrid_legal byte1
  · have hcell := gridMap_cell mainGrid (fun cell => illegalByte (cell byte1 byte2).form) op
    rw [mainGrid_illegalByte, gridMap_cell] at hcell
    exact (Option.some.inj hcell).symm.trans (mainGrid_illegal_cells op)

/-- The decoder reads its first byte with some two bytes after it (R142). -/
theorem decode_eq_decodeBytes {op : Byte} {rest after : List Byte} {i : Instr}
    (h : decode (op :: rest) = .ok (i, after)) : ∃ byte1 byte2, i = decodeBytes op byte1 byte2 := by
  simp only [decode] at h
  split_ifs at h
  · cases h; exact ⟨0, 0, rfl⟩
  · split at h
    · cases h; exact ⟨_, 0, rfl⟩
    · cases h
  · split at h
    · cases h; exact ⟨_, _, rfl⟩
    · cases h

/-- An illegal byte is an instruction of one byte (R316). -/
theorem lengthOf_illegal : ∀ op ∈ illegalBytes, lengthOf op = 1 := by decide

/-- Fetching an illegal byte takes that byte alone (R142, R316). -/
theorem fetch_illegal {s : State} (hpc : s.region s.regs.pc ≠ .crash) (h : busRead s s.regs.pc ∈ illegalBytes) :
    (fetch s).1.form = .illegal (busRead s s.regs.pc) ∧ (fetch s).2 = s := by
  have hf : fetch s = (decodeBytes (busRead s s.regs.pc) 0 0, s) := by
    unfold fetch
    dsimp only
    rw [if_pos (lengthOf_illegal _ h), afterRead_of_not_crash hpc]
  rw [hf]
  refine ⟨form_eq_illegal_iff.mpr ?_, rfl⟩
  rw [decodeBytes_illegalByte, if_pos h]

theorem exec_illegal {i : Instr} {op : Byte} (h : i.form = .illegal op) (s : State) :
    exec i s = .fault (.illegalOpcode op s.regs.pc { s with ctl := { s.ctl with faulted := some ⟨op, s.regs.pc⟩ } }) :=
  exec_of_form h s

/-- Settles O10: the grid has an illegal cell exactly at these bytes, such a row raises the fault, the system step hands
the fault on before the peripherals are stepped, and the frozen state answers it again. -/
theorem illegalOpcodesFault : Obligations.IllegalOpcodesFault := by
  refine ⟨fun op rest i after hd => ?_, fun i op s hi => ⟨encode_of_form hi, exec_illegal hi s⟩, ?_⟩
  · obtain ⟨byte1, byte2, rfl⟩ := decode_eq_decodeBytes hd
    simp only [form_eq_illegal_iff, decodeBytes_illegalByte]
    change _ ↔ op ∈ illegalBytes
    split <;> simp_all
  · intro s hfaulted hstopped hhalted hmoves hirq hpc hop frozen
    obtain ⟨hform, hkept⟩ := fetch_illegal hpc hop
    have hrun : runInstruction s = .fault (.illegalOpcode (busRead s s.regs.pc) s.regs.pc frozen) := by
      simp only [runInstruction, hkept, exec_illegal hform]
      rfl
    refine ⟨?_, step_of_faulted (s := frozen) rfl⟩
    rw [step_eq_systemStep hfaulted hstopped hmoves, systemStep, cpuStep_eq_runInstruction hhalted hirq, hrun]

/-! ## HALT and STOP (R311, R312) -/

theorem nextPc_eq_pcn (s : State) {n : Nat} (hn : 0 < n) : s.nextPc n = pcn s n := s.nextPc_eq n hn

/-- An instruction that reads and stores nothing keeps everything outside the CPU. -/
theorem outsideKept_of_board_eq {s t : State} (hb : t.board = s.board) (hm : t.hostMoves = s.hostMoves) :
    OutsideKept s t [] :=
  ⟨hb, hm, fun a _ => by rw [busRead, hb]; rfl⟩

/-- In video RAM and from the I/O page up a read is the byte of `mem` (R66, R71, R72). -/
theorem memRead_eq_rawRead {s : Board} {a : Word} (h : 0x8000 ≤ a ∧ a ≤ 0x9FFF ∨ 0xFF00 ≤ a) :
    memRead s a = rawRead s a := by
  have hb := regionOf_bounds s.bootVisible a
  unfold memRead Board.region
  cases hr : regionOf s.bootVisible a <;> rw [hr] at hb <;> dsimp only at hb ⊢ <;> bv_omega

/-- A write of DIV by its rule is seen at DIV alone (R112). -/
theorem memRead_writeDiv_other (s : Board) {a : Word} (h : a ≠ Io.div) : memRead (writeDiv s) a = memRead s a := by
  refine (touches_writeDiv s).memRead (fun _ => by simpa using h) (fun he => ?_)
  have hb := regionOf_bounds s.bootVisible a
  rw [show regionOf s.bootVisible a = .echo from he] at hb
  simp only [List.mem_singleton]
  dsimp only at hb
  bv_omega

/-- HALT meets its bug (R311). -/
theorem halt_meets_bug {s : State} (h : s.ctl.ime = false ∧ pendingInterrupts s.board ≠ 0) :
    halt s = .next { s.advance 1 4 with ctl := { s.ctl with haltBug := s.board.params.haltBug } } := if_pos h

/-- HALT halts (R311). -/
theorem halt_halts {s : State} (h : ¬ (s.ctl.ime = false ∧ pendingInterrupts s.board ≠ 0)) :
    halt s = .next { s.advance 1 4 with ctl := { s.ctl with haltBug := false, halted := true } } := if_neg h

/-- Settles O37: HALT looks at IME and the pending requests, STOP is the write of DIV and the bit `stopped`; each is one
advance past its bytes beside that. -/
theorem haltAndStop : Obligations.HaltAndStop := by
  intro i s
  refine ⟨fun hi => ⟨encode_of_form hi, ?_⟩, fun pad hi => ⟨encode_of_form hi, ?_⟩⟩
  · have hp : busRead s 0xFFFF &&& busRead s 0xFF0F &&& 0x1F = pendingInterrupts s.board := by
      rw [busRead, busRead, memRead_eq_rawRead (.inr (by decide)), memRead_eq_rawRead (.inr (by decide))]; rfl
    have hpc := nextPc_eq_pcn s (n := 1) (by decide)
    rw [hp]
    by_cases hbug : s.ctl.ime = false ∧ pendingInterrupts s.board ≠ 0
    · rw [if_pos hbug]
      exact ⟨_, (exec_of_form hi s).trans (halt_meets_bug hbug), by simp [hpc], rfl, outsideKept_of_board_eq rfl rfl, rfl⟩
    · rw [if_neg hbug]
      exact ⟨_, (exec_of_form hi s).trans (halt_halts hbug), by simp [hpc], rfl, outsideKept_of_board_eq rfl rfl, rfl⟩
  · unfold Runs
    rw [exec_of_form hi]
    refine ⟨_, rfl, ?_, rfl, rfl, rfl, rfl, ?_, fun a ha => memRead_writeDiv_other s.board ha⟩
    · simp [nextPc_eq_pcn s (n := 2) (by decide)]
    · exact (memRead_eq_rawRead (.inr (by decide))).trans (rawRead_rawWrite_same s.board Io.div 0)

end Sys2Proof.Machine
end

section
/-! The state family (spec/10_state.md), the peripherals: what a property of them depends on, what an I/O write touches
at all, and their loops (R110 to R121, R372, R420). -/

namespace Sys2Proof.Machine

/-! ## What a property of the peripherals depends on -/

/-- `P` looks at the bytes at `l`, the buttons, the parameters and, where flagged, the hidden state of the Timer, the PPU,
the APU; at nothing else. -/
def DependsOn (P : Board → Prop) (l : List Word) (tim vid snd : Bool) : Prop :=
  ∀ s t : Board, (∀ a ∈ l, rawRead t a = rawRead s a) → (tim = true → t.timer = s.timer) → (vid = true → t.ppu = s.ppu) →
    (snd = true → t.apu = s.apu) → t.buttons = s.buttons → t.params = s.params → P s → P t

namespace DependsOn

variable {P : Board → Prop} {l m : List Word} {tim vid snd tim' vid' snd' : Bool} {s t : Board}

/-- What touches nothing that `P` looks at keeps `P`. -/
theorem touches (d : DependsOn P l tim vid snd) (h : Touches m tim' vid' snd' s t) (hs : P s)
    (hl : ∀ a ∈ l, a ∉ m := by simp) (ht : tim = true → tim' = false := by simp)
    (hv : vid = true → vid' = false := by simp) (ha : snd = true → snd' = false := by simp) : P t :=
  d s t (fun a k => h.bytes a (hl a k)) (fun k => h.timer (ht k)) (fun k => h.ppu (hv k)) (fun k => h.apu (ha k))
    h.buttons h.params hs

/-- A property of I/O registers and peripherals is kept by stores outside the I/O page. -/
theorem sameIo (d : DependsOn P l tim vid snd) (hl : ∀ a ∈ l, 0xFF00 ≤ a ∧ a ≤ 0xFF7F) (h : SameIo s t) (hs : P s) : P t :=
  d s t (fun a k => h.bytes a (hl a k).1 (hl a k).2) (fun _ => h.timer) (fun _ => h.ppu) (fun _ => h.apu) h.buttons
    h.params hs

end DependsOn

/-! ## What an I/O write touches (R110 to R121) -/

/-- The bytes of the I/O page that a write of `a` may change. -/
def ioReach (a : Word) : List Word :=
  if soundAddress a then a :: Io.nr52 :: soundRegisters
  else if a = Io.lcdc then [Io.lcdc, Io.ly, Io.stat, Io.if_]
  else if a = Io.lyc then [Io.lyc, Io.stat, Io.if_]
  else [a]

/-- On the I/O page the OAM copy is the byte stored at DMA (R118). -/
theorem sameIo_writeDma (v : Byte) (s : Board) : SameIo (rawWrite s Io.dma v) (writeDma v s) := by
  obtain ⟨hd, _, _, _⟩ := writeDma_frame v s
  obtain ⟨_, _, _, hb⟩ := dmaFold v (List.range 160) (fun i hi => List.mem_range.mp hi) (rawWrite s Io.dma v)
  exact ⟨fun b h1 _ => hb b (by bv_omega), by rw [hd]; rfl, by rw [hd]; rfl, by rw [hd]; rfl, by rw [hd]; rfl,
    by rw [hd]; rfl⟩

/-- The side effects of an I/O write stay with the owner of its register; on the I/O page nothing else changes (the OAM
copy and the boot switch reach what lies outside it). -/
theorem ioWrite_touches (a : Word) (v : Byte) (s : Board) :
    ∃ t, Touches (ioReach a) (decide (a = Io.div ∨ a = Io.tac)) (decide (a = Io.lcdc)) (soundAddress a) s t ∧
      SameIo t (ioWrite a v s) := by
  have same (t : Board) : SameIo t t := ⟨fun _ _ _ => rfl, rfl, rfl, rfl, rfl, rfl⟩
  rcases ioWrite_cases a v s with ⟨rfl, e⟩ | ⟨rfl, e⟩ | ⟨rfl, e⟩ | ⟨h, e⟩ | ⟨rfl, e⟩ | ⟨rfl, e⟩ | ⟨rfl, e⟩ | ⟨rfl, e⟩ |
    ⟨rfl, e⟩ | ⟨rfl, e⟩ | ⟨⟨h, hs⟩, e⟩ <;> rw [e]
  · exact ⟨_, touches_writeP1 v s, same _⟩
  · exact ⟨_, touches_writeDiv s, same _⟩
  · exact ⟨_, touches_writeTac v s, same _⟩
  · refine ⟨_, (touches_apuWrite a v s).mono ?_ (by simp) (by simp) (fun _ => h), same _⟩
    rw [ioReach, if_pos h]
    split <;> simp
  · exact ⟨_, touches_writeLcdc v s, same _⟩
  · exact ⟨_, touches_writeStat v s, same _⟩
  · exact ⟨_, Touches.refl s, same _⟩
  · exact ⟨_, touches_writeLyc v s, same _⟩
  · exact ⟨_, Touches.rawWrite s v (by decide), sameIo_writeDma v s⟩
  · exact ⟨rawWrite s Io.boot v, Touches.rawWrite s v (by decide), fun _ _ _ => rfl, rfl, rfl, rfl, rfl, rfl⟩
  · refine ⟨_, Touches.rawWrite s v ?_, same _⟩
    simp_all [ioReach]

/-- A write to a register that neither is nor reaches anything `P` looks at keeps `P` (R110). -/
theorem DependsOn.ioWrite {P : Board → Prop} {l : List Word} {tim vid snd : Bool} {s : Board} {a : Word}
    (d : DependsOn P l tim vid snd) (v : Byte) (hs : P s) (hio : ∀ b ∈ l, 0xFF00 ≤ b ∧ b ≤ 0xFF7F)
    (hl : ∀ b ∈ l, b ∉ ioReach a) (ht : tim = true → a ≠ Io.div ∧ a ≠ Io.tac) (hv : vid = true → a ≠ Io.lcdc)
    (ha : snd = true → soundAddress a = false) : P (ioWrite a v s) := by
  obtain ⟨t, touched, same⟩ := ioWrite_touches a v s
  exact d.sameIo hio same (d.touches touched hs hl (fun k => decide_eq_false (not_or.mpr (ht k)))
    (fun k => decide_eq_false (hv k)) ha)

theorem ioWrite_of_soundAddress {a : Word} (h : soundAddress a = true) (v : Byte) (s : Board) :
    ioWrite a v s = apuWrite a v s := by
  have h1 : a ≠ Io.p1 := by rintro rfl; exact absurd h (by decide)
  have h2 : a ≠ Io.div := by rintro rfl; exact absurd h (by decide)
  have h3 : a ≠ Io.tac := by rintro rfl; exact absurd h (by decide)
  rw [ioWrite, if_neg h1, if_neg h2, if_neg h3, if_pos h]

/-- What a write reaches outside its own owner's registers: a register `b` is reached from the sound block, by a switch
of the LCD, by LYC, or by its own address. -/
theorem mem_ioReach {a b : Word} (h : b ∈ ioReach a) :
    b = a ∨ soundAddress a = true ∧ soundAddress b = true ∨ a = Io.lcdc ∧ b ∈ [Io.ly, Io.stat, Io.if_] ∨
      a = Io.lyc ∧ b ∈ [Io.stat, Io.if_] := by
  unfold ioReach at h
  split_ifs at h with h1 h2 h3
  · rcases List.mem_cons.mp h with h | h
    · exact .inl h
    · have sound : (Io.nr52 :: soundRegisters).all soundAddress = true := by decide
      exact .inr (.inl ⟨h1, List.all_eq_true.mp sound b h⟩)
  · simp_all
  · simp_all
  · exact .inl (by simpa using h)

theorem not_mem_ioReach {a b : Word} (hne : a ≠ b) (hsound : soundAddress a = true → soundAddress b = false)
    (hlcdc : a = Io.lcdc → b ∉ [Io.ly, Io.stat, Io.if_]) (hlyc : a = Io.lyc → b ∉ [Io.stat, Io.if_]) : b ∉ ioReach a := by
  intro hm
  rcases mem_ioReach hm with e | ⟨ha, hb⟩ | ⟨ha, hb⟩ | ⟨ha, hb⟩
  · exact hne e.symm
  · exact absurd (hb.symm.trans (hsound ha)) (by decide)
  · exact hlcdc ha hb
  · exact hlyc ha hb

/-! ## Loops of the peripherals -/

/-- What every mode's end keeps, whatever the accumulator holds, the loop keeps (R372). -/
theorem ppuLoop_keeps {P : Board → Prop} (hacc : ∀ s n, P s → P { s with ppu := { s.ppu with acc := n } })
    (hend : ∀ s, P s → P (ppuModeEnd s)) (n : Nat) {s : Board} (h : P s) : P (ppuLoop n s) := by
  induction n generalizing s with
  | zero => exact h
  | succ n ih =>
    unfold ppuLoop
    split
    · exact h
    · exact ih (hend _ (hacc s _ h))

/-- What every cycle keeps, the APU's step keeps (R420). -/
theorem apuStep_keeps {P : Board → Prop} (hcycle : ∀ s, P s → P (apuCycle s)) (n : Nat) {s : Board} (h : P s) :
    P (apuStep n s) := by
  induction n generalizing s with
  | zero => exact h
  | succ n ih => exact ih (hcycle s h)

@[simp] theorem frameDone_ppu (s : Board) : (frameDone s).ppu = { s.ppu with frames := s.ppu.frames + 1 } := rfl
@[simp] theorem raiseVBlank_ppu (s : Board) : (raiseVBlank s).ppu = s.ppu := rfl

end Sys2Proof.Machine
end

section
/-! The state family (spec/10_state.md), two mirrors in `mem`: the joypad lines of P1 and the mode bits of STAT (R41, R71,
R345, R362). -/

namespace Sys2Proof.Machine

/-! ## P1 shows the buttons (R71, R345) -/

/-- P1's value keeps the upper nibble, which is all it depends on (R111). -/
theorem p1Value_p1Value (v b c : Byte) : p1Value (p1Value v c) b = p1Value v b := by
  have hsel : (p1Value v c).extractLsb' 4 2 = v.extractLsb' 4 2 := by
    unfold p1Value
    ext i hi
    interval_cases i <;> simp
  have hup : p1Value v c &&& 0xF0 = v &&& 0xF0 := by
    unfold p1Value
    ext i hi
    interval_cases i <;> simp
  rw [p1Value, hsel, hup, ← p1Value]

theorem joypadOk_dependsOn : DependsOn JoypadOk [Io.p1] false false false := by
  intro s t hl _ _ _ hb _ hs
  unfold JoypadOk
  rw [hl Io.p1 (by simp), hb]
  exact hs

theorem joypadOk_writeP1 (v : Byte) (s : Board) : JoypadOk (writeP1 v s) := by
  unfold JoypadOk writeP1
  rw [rawRead_rawWrite_same, rawWrite_buttons, p1Value_p1Value]

theorem joypadOk_pressButtons (b : Byte) (s : Board) : JoypadOk (pressButtons b s) := by
  unfold JoypadOk
  rw [rawRead_pressButtons_p1, (touches_pressButtons b s).buttons, p1Value_p1Value]

theorem kept_joypadOk : Kept JoypadOk := by
  refine Kept.of_io (fun s t same h => joypadOk_dependsOn.sameIo (by simp) same h) (fun s a v h => ?_)
    (fun s b _ => joypadOk_pressButtons b s) (fun s n h => joypadOk_dependsOn.touches (touches_timerStep n s) h)
    (fun s n h => joypadOk_dependsOn.touches (touches_ppuStep n s) h)
    (fun s n h => joypadOk_dependsOn.touches (touches_apuStep n s) h)
  by_cases ha : a = Io.p1
  · subst ha; exact joypadOk_writeP1 v s
  · have hp1 : Io.p1 ∉ ioReach a := not_mem_ioReach ha (fun _ => by decide) (fun _ => by decide) (fun _ => by decide)
    exact joypadOk_dependsOn.ioWrite v h (by simp) (List.forall_mem_singleton.mpr hp1) (by simp) (by simp) (by simp)

/-! ## STAT shows the mode (R41, R362) -/

theorem statModeOk_dependsOn : DependsOn StatModeOk [Io.stat] false true false := by
  intro s t hl _ hv _ _ _ hs
  unfold StatModeOk
  rw [hl Io.stat (by simp), hv rfl]
  exact hs

/-- Entering a mode writes its number (R373). -/
theorem statModeOk_setMode (m : PpuMode) (s : Board) : StatModeOk (setMode m s) := by
  unfold StatModeOk
  rw [setMode_stat, setMode_ppu, BitVec.and_or_distrib_right, BitVec.and_assoc]
  cases m <;> simp [PpuMode.code]

/-- The line compare writes STAT[2] alone (R375). -/
theorem statModeOk_lycCompare {s : Board} (h : StatModeOk s) : StatModeOk (lycCompare s) := by
  unfold StatModeOk at h ⊢
  rw [lycCompare_ppu, ← h, lycCompare_stat]
  split
  · rw [BitVec.and_or_distrib_right]; simp
  · rw [BitVec.and_assoc]; rfl

theorem statModeOk_frameDone {s : Board} (h : StatModeOk s) : StatModeOk (frameDone s) := h

theorem statModeOk_ppuDisable (s : Board) : StatModeOk (ppuDisable s) := by
  unfold StatModeOk ppuDisable
  show rawRead (rawWrite _ Io.stat _) Io.stat &&& 0x03 = 0
  rw [rawRead_rawWrite_same, BitVec.and_assoc]
  simp

theorem statModeOk_ppuEnable (s : Board) : StatModeOk (ppuEnable s) := by
  refine statModeOk_lycCompare ?_
  unfold StatModeOk writeStatMode
  rw [rawRead_rawWrite_same, BitVec.and_or_distrib_right, BitVec.and_assoc]
  simp [PpuMode.code]

/-- A mode's end enters a mode, or stays in V-blank and compares the line (R372). -/
theorem statModeOk_ppuModeEnd {s : Board} (h : StatModeOk s) : StatModeOk (ppuModeEnd s) := by
  unfold ppuModeEnd
  dsimp only
  cases s.ppu.mode <;> dsimp only
  case hblank =>
    split
    · exact statModeOk_frameDone (statModeOk_dependsOn.touches (touches_raiseVBlank _) (statModeOk_setMode _ _))
    · exact statModeOk_setMode _ _
  case vblank =>
    split
    · exact statModeOk_setMode _ _
    · exact statModeOk_lycCompare
        (statModeOk_dependsOn.touches (Touches.rawWrite (l := [Io.ly]) (tim := false) (vid := false) (snd := false) s _) h)
  case oamSearch | transfer => exact statModeOk_setMode _ _

theorem statModeOk_ppuStep {s : Board} (n : Nat) (h : StatModeOk s) : StatModeOk (ppuStep n s) := by
  unfold ppuStep
  split
  · exact ppuLoop_keeps (P := StatModeOk) (fun _ _ => id) (fun _ => statModeOk_ppuModeEnd) _ h
  · unfold ppuOffStep
    dsimp only
    split <;> exact h

theorem statModeOk_ioWrite {s : Board} (a : Word) (v : Byte) (h : StatModeOk s) : StatModeOk (ioWrite a v s) := by
  have raw (b : Word) (w : Byte) (hb : Io.stat ≠ b) : StatModeOk (rawWrite s b w) := by
    unfold StatModeOk
    rw [rawRead_rawWrite_other s w hb]; exact h
  by_cases h1 : a = Io.lcdc
  · subst h1
    show StatModeOk (writeLcdc v s)
    unfold writeLcdc
    dsimp only
    split_ifs
    · exact statModeOk_ppuDisable _
    · exact statModeOk_ppuEnable _
    · exact raw _ _ (by decide)
  by_cases h2 : a = Io.stat
  · subst h2
    show StatModeOk (writeStat v s)
    unfold StatModeOk writeStat at *
    rw [rawRead_rawWrite_same, rawWrite_ppu, ← h, BitVec.and_or_distrib_right, BitVec.and_assoc, BitVec.and_assoc]
    simp
  by_cases h3 : a = Io.lyc
  · subst h3
    show StatModeOk (writeLyc v s)
    unfold writeLyc
    dsimp only
    split
    · exact statModeOk_lycCompare (raw _ _ (by decide))
    · exact raw _ _ (by decide)
  have hstat : Io.stat ∉ ioReach a :=
    not_mem_ioReach h2 (fun _ => by decide) (fun e => absurd e h1) (fun e => absurd e h3)
  exact statModeOk_dependsOn.ioWrite v h (by simp) (List.forall_mem_singleton.mpr hstat) (by simp) (fun _ => h1) (by simp)

theorem kept_statModeOk : Kept StatModeOk := by
  refine Kept.of_io (fun s t same h => statModeOk_dependsOn.sameIo (by simp) same h)
    (fun s a v h => statModeOk_ioWrite a v h) (fun s b h => ?_)
    (fun s n h => statModeOk_dependsOn.touches (touches_timerStep n s) h) (fun s n h => statModeOk_ppuStep n h)
    (fun s n h => statModeOk_dependsOn.touches (touches_apuStep n s) h)
  exact statModeOk_dependsOn.touches (touches_pressButtons b s) (s := { s with buttons := b }) h

end Sys2Proof.Machine
end

section
/-! The state family (spec/10_state.md), the sound channels: what their operations can do, and the mirror of the channels'
switches in NR52 (R405 to R421). -/

namespace Sys2Proof.Machine

/-! ## What the channels' operations can do (R408 to R421)

Between them they switch channels on and off, move hidden state other than the switches and the two cycle counters, and
write registers other than NR52. -/

/-- The update leaves the channels' switches and the counters of the frame sequencer and the downsampler. -/
def KeepsSwitches (f : Apu → Apu) : Prop :=
  ∀ p : Apu, (∀ ch, ((f p).channel ch).en = (p.channel ch).en) ∧ (f p).fsAcc = p.fsAcc ∧ (f p).dsAcc = p.dsAcc

/-- What an operation of the sound channels can do, in some order. -/
inductive ChannelMoves (s : Board) : Board → Prop where
  | refl : ChannelMoves s s
  | enable {t : Board} (ch : Chan) (b : Bool) : ChannelMoves s t → ChannelMoves s (setEnabled ch b t)
  | hidden {t : Board} {f : Apu → Apu} (hf : KeepsSwitches f) : ChannelMoves s t → ChannelMoves s (mapApu f t)
  | write {t : Board} {a : Word} (v : Byte) (ha : Io.nr52 ≠ a) : ChannelMoves s t → ChannelMoves s (rawWrite t a v)

namespace ChannelMoves

variable {s t u : Board}

theorem trans (h : ChannelMoves s t) (k : ChannelMoves t u) : ChannelMoves s u := by
  induction k with
  | refl => exact h
  | enable ch b _ ih => exact ih.enable ch b
  | hidden hf _ ih => exact ih.hidden hf
  | write v ha _ ih => exact ih.write v ha

theorem ite {c : Prop} [Decidable c] (h : c → ChannelMoves s t) (k : ¬ c → ChannelMoves s u) :
    ChannelMoves s (if c then t else u) := by
  split
  · exact h ‹_›
  · exact k ‹_›

/-- The two cycle counters and the downsample interval stay. -/
theorem counters (h : ChannelMoves s t) :
    t.apu.fsAcc = s.apu.fsAcc ∧ t.apu.dsAcc = s.apu.dsAcc ∧ t.params = s.params := by
  induction h with
  | refl => exact ⟨rfl, rfl, rfl⟩
  | enable ch b _ ih => cases ch <;> exact ih
  | hidden hf _ ih => exact ⟨(hf _).2.1.trans ih.1, (hf _).2.2.trans ih.2.1, ih.2.2⟩
  | write v ha _ ih => exact ih

end ChannelMoves

/-- Part of one channel beside its switch. -/
theorem keepsSwitches_setChannel (ch : Chan) (c : Apu → Channel) (hc : ∀ p, (c p).en = (p.channel ch).en) :
    KeepsSwitches (fun p => p.setChannel ch (c p)) := by
  refine fun p => ⟨fun ch' => ?_, by cases ch <;> rfl, by cases ch <;> rfl⟩
  rw [Apu.channel_setChannel]
  split
  · rename_i h; rw [h]; exact hc p
  · rfl

theorem keepsSwitches_setEnvelope (ch : Chan) (v : Envelope) : KeepsSwitches (fun p => p.setEnvelope ch v) :=
  fun _ => ⟨fun ch' => by cases ch <;> cases ch' <;> rfl, by cases ch <;> rfl, by cases ch <;> rfl⟩

theorem keepsSwitches_sweep (w : Apu → Sweep) : KeepsSwitches (fun p => { p with sweep := w p }) :=
  fun _ => ⟨fun ch => by cases ch <;> rfl, rfl, rfl⟩

theorem channelMoves_setLen (ch : Chan) (n : Nat) (s : Board) : ChannelMoves s (setLen ch n s) :=
  .hidden (keepsSwitches_setChannel ch _ fun _ => rfl) .refl

theorem channelMoves_setTimer (ch : Chan) (n : Nat) (s : Board) : ChannelMoves s (setTimer ch n s) :=
  .hidden (keepsSwitches_setChannel ch _ fun _ => rfl) .refl

theorem channelMoves_sweepCheck (s : Board) : ChannelMoves s (sweepCheck s) :=
  .ite (fun _ => .enable _ _ .refl) fun _ => .refl

theorem channelMoves_sweepStore (new : BitVec 11) (s : Board) : ChannelMoves s (sweepStore new s) :=
  .write _ (by decide) (.write _ (by decide) (.hidden (keepsSwitches_sweep _) .refl))

theorem channelMoves_sweepTick (s : Board) : ChannelMoves s (sweepTick s) := by
  have timer (n : Board → Nat) (u : Board) :
      ChannelMoves u (mapApu (fun p => { p with sweep := { p.sweep with timer := n u } }) u) :=
    .hidden (keepsSwitches_sweep _) .refl
  have h1 : ChannelMoves s (mapApu (fun p => { p with sweep := { p.sweep with timer := p.sweep.timer - 1 } }) s) :=
    .hidden (keepsSwitches_sweep _) .refl
  unfold sweepTick
  refine .ite (fun _ => h1) fun _ => ?_
  refine .ite (fun _ => ?_) fun _ => h1.trans (timer sweepReload _)
  have h2 := (h1.trans (timer sweepReload _)).trans (channelMoves_sweepCheck _)
  exact .ite (fun _ => (h2.trans (channelMoves_sweepStore _ _)).trans (channelMoves_sweepCheck _)) fun _ => h2

theorem channelMoves_triggerEnvelope (ch : Chan) (s : Board) : ChannelMoves s (triggerEnvelope ch s) :=
  .hidden (keepsSwitches_setEnvelope ch _) .refl

theorem channelMoves_triggerSweep (s : Board) : ChannelMoves s (triggerSweep s) := by
  unfold triggerSweep
  have h (w : Sweep) : ChannelMoves s (mapApu (fun p => { p with sweep := w }) s) :=
    .hidden (keepsSwitches_sweep _) .refl
  exact .ite (fun _ => (h _).trans (channelMoves_sweepCheck _)) fun _ => h _

theorem channelMoves_triggerOwn (ch : Chan) (s : Board) : ChannelMoves s (triggerOwn ch s) := by
  unfold triggerOwn
  cases ch
  · exact (channelMoves_triggerEnvelope .one s).trans (channelMoves_triggerSweep _)
  · exact channelMoves_triggerEnvelope .two s
  · refine .hidden ?_ .refl
    exact fun p => ⟨fun c => by cases c <;> rfl, rfl, rfl⟩
  · refine .hidden ?_ (channelMoves_triggerEnvelope .four s)
    exact fun p => ⟨fun c => by cases c <;> rfl, rfl, rfl⟩

theorem channelMoves_trigger (ch : Chan) (s : Board) : ChannelMoves s (trigger ch s) := by
  have h1 : ChannelMoves s (setEnabled ch true s) := .enable _ _ .refl
  have h2 : ChannelMoves s
      (if ((setEnabled ch true s).apu.channel ch).len = 0 then setLen ch (fullLength ch) (setEnabled ch true s)
        else setEnabled ch true s) := .ite (fun _ => h1.trans (channelMoves_setLen _ _ _)) fun _ => h1
  have h3 (n : Nat) := (h2.trans (channelMoves_setTimer ch n _)).trans (channelMoves_triggerOwn ch _)
  exact .ite (fun _ => h3 _) fun _ => .enable _ _ (h3 _)

theorem channelMoves_lengthTick (ch : Chan) (s : Board) : ChannelMoves s (lengthTick ch s) :=
  .ite (fun _ => .ite (fun _ => .enable _ _ (channelMoves_setLen ch _ s)) fun _ => channelMoves_setLen ch _ s)
    fun _ => .refl

theorem channelMoves_envelopeTick (ch : Chan) (s : Board) : ChannelMoves s (envelopeTick ch s) := by
  unfold envelopeTick
  split
  · exact .hidden (keepsSwitches_setEnvelope ch _) .refl
  · exact .refl

theorem channelMoves_frameSequencerTick (s : Board) : ChannelMoves s (frameSequencerTick s) := by
  have lengths (u : Board) : ChannelMoves u (lengthTick .four (lengthTick .three (lengthTick .two (lengthTick .one u)))) :=
    (((channelMoves_lengthTick .one u).trans (channelMoves_lengthTick .two _)).trans
      (channelMoves_lengthTick .three _)).trans (channelMoves_lengthTick .four _)
  have envelopes (u : Board) : ChannelMoves u (envelopeTick .four (envelopeTick .two (envelopeTick .one u))) :=
    ((channelMoves_envelopeTick .one u).trans (channelMoves_envelopeTick .two _)).trans (channelMoves_envelopeTick .four _)
  have step1 := ChannelMoves.ite (c := s.apu.fsStep.getLsbD 0 = true) (fun _ => .refl) fun _ => lengths s
  have step2 (u : Board) := ChannelMoves.ite (c := s.apu.fsStep = 2 ∨ s.apu.fsStep = 6)
    (fun _ => channelMoves_sweepTick u) fun _ => .refl
  have step3 (u : Board) := ChannelMoves.ite (c := s.apu.fsStep = 7) (fun _ => envelopes u) fun _ => .refl
  unfold frameSequencerTick
  refine .hidden ?_ ((step1.trans (step2 _)).trans (step3 _))
  exact fun p => ⟨fun c => by cases c <;> rfl, rfl, rfl⟩

theorem channelMoves_timerCycle (ch : Chan) (s : Board) : ChannelMoves s (timerCycle ch s) := by
  have generator (u : Board) : ChannelMoves u (generatorStep ch u) := by
    unfold generatorStep
    cases ch <;> refine .hidden ?_ (channelMoves_setTimer _ _ u) <;>
      exact fun p => ⟨fun c => by cases c <;> rfl, rfl, rfl⟩
  exact .ite (fun _ => (channelMoves_setTimer ch _ s).trans (generator _)) fun _ => channelMoves_setTimer ch _ s

/-- The four generators of a cycle (R420). -/
theorem channelMoves_timerCycles (s : Board) :
    ChannelMoves s (timerCycle .four (timerCycle .three (timerCycle .two (timerCycle .one s)))) :=
  (((channelMoves_timerCycle .one s).trans (channelMoves_timerCycle .two _)).trans
    (channelMoves_timerCycle .three _)).trans (channelMoves_timerCycle .four _)

theorem channelMoves_clearRegisters (l : List Word) (hl : Io.nr52 ∉ l) (s : Board) :
    ChannelMoves s (clearRegisters l s) := by
  induction l generalizing s with
  | nil => exact .refl
  | cons a l ih =>
    rw [List.mem_cons, not_or] at hl
    exact (ChannelMoves.write 0 hl.1 .refl).trans (ih hl.2 _)

theorem channelMoves_apuPowerOff (s : Board) : ChannelMoves s (apuPowerOff s) := by
  have cleared : ChannelMoves s (clearRegisters soundRegisters s) :=
    channelMoves_clearRegisters soundRegisters (by simp [soundRegisters]) s
  unfold apuPowerOff
  refine .hidden ?_ (.enable .four _ (.enable .three _ (.enable .two _ (.enable .one _ cleared))))
  exact fun p => ⟨fun c => by cases c <;> rfl, rfl, rfl⟩

theorem channelMoves_apuWriteEffect (a : Word) (v : Byte) (s : Board) : ChannelMoves s (apuWriteEffect a v s) := by
  have off (ch : Chan) : ChannelMoves s (setEnabled ch false s) := .enable _ _ .refl
  unfold apuWriteEffect
  exact .ite (fun _ => channelMoves_setLen _ _ s) fun _ => .ite (fun _ => channelMoves_setLen _ _ s) fun _ =>
    .ite (fun _ => channelMoves_setLen _ _ s) fun _ => .ite (fun _ => channelMoves_setLen _ _ s) fun _ =>
    .ite (fun _ => .ite (fun _ => off _) fun _ => .refl) fun _ => .ite (fun _ => .ite (fun _ => off _) fun _ => .refl) fun _ =>
    .ite (fun _ => .ite (fun _ => off _) fun _ => .refl) fun _ => .ite (fun _ => .ite (fun _ => .refl) fun _ => off _) fun _ =>
    .ite (fun _ => .ite (fun _ => channelMoves_trigger _ s) fun _ => .refl) fun _ =>
    .ite (fun _ => .ite (fun _ => channelMoves_trigger _ s) fun _ => .refl) fun _ =>
    .ite (fun _ => .ite (fun _ => channelMoves_trigger _ s) fun _ => .refl) fun _ =>
    .ite (fun _ => .ite (fun _ => channelMoves_trigger _ s) fun _ => .refl) fun _ => .refl

/-- A write to a sound register other than NR52, or to wave RAM, is such an operation, or is ignored (R406). -/
theorem channelMoves_apuWrite {a : Word} (ha : Io.nr52 ≠ a) (v : Byte) (s : Board) : ChannelMoves s (apuWrite a v s) := by
  have stored : ChannelMoves s (rawWrite s a v) := .write v ha .refl
  unfold apuWrite
  rw [if_neg (fun e : a = Io.nr52 => ha e.symm)]
  exact .ite (fun _ => stored) fun _ => .ite (fun _ => stored.trans (channelMoves_apuWriteEffect a v _)) fun _ => .refl

/-! ## NR52 shows the channels' switches (R405) -/

theorem soundStatusOk_dependsOn : DependsOn SoundStatusOk [Io.nr52] false false true := by
  intro s t hl _ _ ha _ _ hs ch
  rw [hl Io.nr52 (by simp), ha rfl]
  exact hs ch

/-- `SetEnabled` writes its own bit of NR52 alone (R408). -/
theorem setEnabled_nr52_other {ch c : Chan} (h : c ≠ ch) (b : Bool) (s : Board) :
    (rawRead (setEnabled ch b s) Io.nr52).getLsbD c.bit = (rawRead s Io.nr52).getLsbD c.bit := by
  unfold setEnabled
  dsimp only
  rw [rawRead_rawWrite_same, mapApu_rawRead]
  cases b <;> cases ch <;> cases c <;> simp_all [Chan.bit]

theorem soundStatusOk_setEnabled {s : Board} (ch : Chan) (b : Bool) (h : SoundStatusOk s) :
    SoundStatusOk (setEnabled ch b s) := by
  intro c
  rw [setEnabled_apu, Apu.channel_setChannel]
  split
  · rename_i hc; rw [hc]; exact setEnabled_nr52 ch b s
  · rename_i hc; rw [setEnabled_nr52_other hc]; exact h c

/-- Moving hidden state beside the switches keeps what NR52 shows. -/
theorem soundStatusOk_mapApu {s : Board} {f : Apu → Apu} (hf : ∀ p ch, ((f p).channel ch).en = (p.channel ch).en)
    (h : SoundStatusOk s) : SoundStatusOk (mapApu f s) := fun ch => (h ch).trans (hf s.apu ch).symm

theorem ChannelMoves.soundStatusOk {s t : Board} (m : ChannelMoves s t) (h : SoundStatusOk s) : SoundStatusOk t := by
  induction m with
  | refl => exact h
  | enable ch b _ ih => exact soundStatusOk_setEnabled ch b ih
  | hidden hf _ ih => exact soundStatusOk_mapApu (fun p => (hf p).1) ih
  | write v ha _ ih =>
    intro ch
    rw [rawRead_rawWrite_other _ v ha]
    exact ih ch

/-- Bits 3..0 of NR52 are not written by a program (R405, R406). -/
theorem soundStatusOk_writeNr52 {s : Board} (v : Byte) (h : SoundStatusOk s) : SoundStatusOk (writeNr52 v s) := by
  have stored : SoundStatusOk (rawWrite s Io.nr52 ((v &&& 0xF0) ||| (rawRead s Io.nr52 &&& 0x0F))) := by
    intro ch
    rw [rawRead_rawWrite_same, rawWrite_apu, ← h ch]
    cases ch <;> simp [Chan.bit]
  unfold writeNr52
  dsimp only
  split_ifs
  · exact (channelMoves_apuPowerOff _).soundStatusOk stored
  · exact soundStatusOk_mapApu (fun p ch => by cases ch <;> rfl) stored
  · exact stored

theorem soundStatusOk_apuCycle {s : Board} (h : SoundStatusOk s) : SoundStatusOk (apuCycle s) := by
  have counter (n : Nat) {u : Board} (hu : SoundStatusOk u) : SoundStatusOk (mapApu (fun p => { p with fsAcc := n }) u) :=
    soundStatusOk_mapApu (fun p ch => by cases ch <;> rfl) hu
  have powered : SoundStatusOk (apuPoweredCycle s) := by
    refine (channelMoves_timerCycles _).soundStatusOk ?_
    split
    · exact (channelMoves_frameSequencerTick _).soundStatusOk (counter 0 h)
    · exact counter _ h
  have down {u : Board} (hu : SoundStatusOk u) : SoundStatusOk (downsampleCycle u) := by
    unfold downsampleCycle
    dsimp only
    split <;> exact soundStatusOk_mapApu (fun p ch => by cases ch <;> rfl) hu
  refine down ?_
  split
  · exact powered
  · exact h

theorem soundStatusOk_ioWrite {s : Board} (a : Word) (v : Byte) (h : SoundStatusOk s) : SoundStatusOk (ioWrite a v s) := by
  by_cases hsound : soundAddress a = true
  · rw [ioWrite_of_soundAddress hsound]
    by_cases h52 : a = Io.nr52
    · subst h52; exact soundStatusOk_writeNr52 v h
    · exact (channelMoves_apuWrite (fun e => h52 e.symm) v s).soundStatusOk h
  · refine soundStatusOk_dependsOn.ioWrite v h (by simp) ?_ (by simp) (by simp) (fun _ => by simpa using hsound)
    refine List.forall_mem_singleton.mpr (not_mem_ioReach ?_ (fun e => absurd e hsound) (fun _ => by decide) fun _ => by decide)
    rintro rfl
    exact hsound (by decide)

theorem kept_soundStatusOk : Kept SoundStatusOk := by
  refine Kept.of_io (fun s t same h => soundStatusOk_dependsOn.sameIo (by simp) same h)
    (fun s a v h => soundStatusOk_ioWrite a v h) (fun s b h => ?_)
    (fun s n h => soundStatusOk_dependsOn.touches (touches_timerStep n s) h)
    (fun s n h => soundStatusOk_dependsOn.touches (touches_ppuStep n s) h) (fun s n h => apuStep_keeps (P := SoundStatusOk) (fun _ => soundStatusOk_apuCycle) n h)
  exact soundStatusOk_dependsOn.touches (touches_pressButtons b s) (s := { s with buttons := b }) h

/-- Settles O55: whatever reaches the board in a step, each of the three owners writes its mirrored bits with the state
they show, and nobody else can write them. -/
theorem everyStepKeepsTheMirrorsCurrent : Obligations.EveryStepKeepsTheMirrorsCurrent := by
  intro s t h
  exact ⟨kept_joypadOk.step h, kept_statModeOk.step h, kept_soundStatusOk.step h⟩

end Sys2Proof.Machine
end

section
/-! The state family (spec/10_state.md), the shape of the frame and the hidden accumulators (R41, R352, R372, R378, R380,
R386, R420). -/

namespace Sys2Proof.Machine

/-! ## The frame and the sprite list (R380, R386) -/

theorem frameOk_dependsOn : DependsOn FrameOk [] false true false := by
  intro s t _ _ hv _ _ _ hs
  unfold FrameOk
  rw [hv rfl]
  exact hs

/-- At most ten sprites of the forty (R380). -/
theorem oamSearch_bounds (s : Board) (ly : Nat) : (oamSearch s ly).length ≤ 10 ∧ ∀ k ∈ oamSearch s ly, k < 40 :=
  ⟨List.length_take_le _ _, fun _ h => List.mem_range.mp (List.mem_filter.mp (List.mem_of_mem_take h)).1⟩

theorem blankFrame_shape : blankFrame.length = 144 ∧ ∀ row ∈ blankFrame, row.length = 160 :=
  ⟨List.length_replicate, fun row h => by rw [List.eq_of_mem_replicate h, List.length_replicate]⟩

/-- What `FrameOk` looks at: the rows and the sprite list. -/
theorem frameOk_of_ppu {s t : Board} (hf : t.ppu.framebuffer = s.ppu.framebuffer)
    (hl : t.ppu.spriteList = s.ppu.spriteList) (h : FrameOk s) : FrameOk t := by
  unfold FrameOk
  rw [hf, hl]
  exact h

/-- Rendering puts 160 shades into one row (R386). -/
theorem frameOk_renderLine {s : Board} (ly : Nat) (h : FrameOk s) : FrameOk (renderLine s ly) := by
  obtain ⟨hrows, hwidth, hlist⟩ := h
  refine ⟨(List.length_set ..).trans hrows, fun row hr => ?_, hlist⟩
  rcases List.mem_or_eq_of_mem_set hr with hr | rfl
  · exact hwidth row hr
  · simp

theorem frameOk_ppuModeEnd {s : Board} (h : FrameOk s) : FrameOk (ppuModeEnd s) := by
  have ⟨hrows, hwidth, _⟩ := h
  unfold ppuModeEnd
  dsimp only
  cases s.ppu.mode <;> dsimp only
  case hblank | vblank =>
    split <;> exact frameOk_of_ppu (s := s) (by simp) (by simp) h
  case oamSearch =>
    refine frameOk_of_ppu (s := { s with ppu := { s.ppu with spriteList := oamSearch s (rawRead s Io.ly).toNat } })
      (by simp) (by simp) ⟨hrows, hwidth, oamSearch_bounds s _⟩
  case transfer => exact frameOk_of_ppu (by simp) (by simp) (frameOk_renderLine (rawRead s Io.ly).toNat h)

theorem frameOk_ppuStep {s : Board} (n : Nat) (h : FrameOk s) : FrameOk (ppuStep n s) := by
  have ⟨_, _, hlist⟩ := h
  unfold ppuStep
  split
  · exact ppuLoop_keeps (P := FrameOk) (fun _ _ => id) (fun _ => frameOk_ppuModeEnd) _ h
  · unfold ppuOffStep
    dsimp only
    split
    · exact h
    · exact ⟨blankFrame_shape.1, blankFrame_shape.2, hlist⟩

theorem frameOk_writeLcdc {s : Board} (v : Byte) (h : FrameOk s) : FrameOk (writeLcdc v s) := by
  unfold writeLcdc
  dsimp only
  split_ifs
  · exact ⟨blankFrame_shape.1, blankFrame_shape.2, Nat.zero_le _, fun k hk => absurd hk List.not_mem_nil⟩
  · exact frameOk_of_ppu (s := s) (by simp [ppuEnable, writeStatMode]) (by simp [ppuEnable, writeStatMode]) h
  · exact h

theorem kept_frameOk : Kept FrameOk := by
  refine Kept.of_io (fun s t same h => frameOk_dependsOn.sameIo (by simp) same h) (fun s a v h => ?_) (fun s b h => ?_)
    (fun s n h => frameOk_dependsOn.touches (touches_timerStep n s) h) (fun s n h => frameOk_ppuStep n h)
    (fun s n h => frameOk_dependsOn.touches (touches_apuStep n s) h)
  · by_cases ha : a = Io.lcdc
    · subst ha; exact frameOk_writeLcdc v h
    · exact frameOk_dependsOn.ioWrite v h (by simp) (by simp) (by simp) (fun _ => ha) (by simp)
  · exact frameOk_dependsOn.touches (touches_pressButtons b s) (s := { s with buttons := b }) h

/-! ## The accumulators (R41) -/

/-- The Timer's accumulators are below 256 and TIMA's period (R352). -/
def TimerAccOk (s : Board) : Prop :=
  s.timer.divAcc < 256 ∧ s.timer.timaAcc < timaPeriod ((rawRead s Io.tac).extractLsb' 0 2)

/-- The PPU's are below a frame and, with the LCD on, the mode's length (R372, R378). -/
def LcdAccOk (s : Board) : Prop := s.ppu.offAcc < 70224 ∧ (lcdcBit s 7 = true → s.ppu.acc < s.ppu.mode.length)

/-- The APU's are below 8192 and the downsample interval (R420). -/
def SoundAccOk (s : Board) : Prop := s.apu.fsAcc < 8192 ∧ s.apu.dsAcc < s.params.apuDownsample

theorem accumulatorsOk_iff (s : Board) : AccumulatorsOk s ↔ TimerAccOk s ∧ LcdAccOk s ∧ SoundAccOk s := by
  simp only [AccumulatorsOk, TimerAccOk, LcdAccOk, SoundAccOk, and_assoc]

/-! ### The Timer's -/

theorem timerAccOk_dependsOn : DependsOn TimerAccOk [Io.tac] true false false := by
  intro s t hl ht _ _ _ _ hs
  unfold TimerAccOk
  rw [hl Io.tac (by simp), ht rfl]
  exact hs

theorem timaPeriod_pos (rate : BitVec 2) : 0 < timaPeriod rate := by
  unfold timaPeriod
  split_ifs <;> decide

theorem iterate_timer {f : Board → Board} (hf : ∀ s, (f s).timer = s.timer) (n : Nat) (s : Board) :
    (iterate f n s).timer = s.timer := by
  induction n generalizing s with
  | zero => rfl
  | succ n ih => exact (ih (f s)).trans (hf s)

theorem timaTick_timer (s : Board) : (timaTick s).timer = s.timer := by
  unfold timaTick
  split <;> rfl

/-- The divider's loop leaves its remainder (R352). -/
theorem timerAccOk_divStep {s : Board} (n : Nat) (h : TimerAccOk s) : TimerAccOk (divStep n s) := by
  have hdiv : (divStep n s).timer = { s.timer with divAcc := (s.timer.divAcc + n) % 256 } :=
    iterate_timer (f := divTick) (fun _ => rfl) _ _
  unfold TimerAccOk
  rw [hdiv, (touches_divStep n s).bytes Io.tac (by simp)]
  exact ⟨Nat.mod_lt _ (by decide), h.2⟩

/-- The counter's loop leaves its remainder, and does not run while TAC[2] is 0 (R352). -/
theorem timerAccOk_timaStep {s : Board} (n : Nat) (h : TimerAccOk s) : TimerAccOk (timaStep n s) := by
  unfold TimerAccOk
  rw [(touches_timaStep n s).bytes Io.tac (by simp)]
  unfold timaStep
  dsimp only
  split
  · rw [iterate_timer timaTick_timer]
    exact ⟨h.1, Nat.mod_lt _ (timaPeriod_pos _)⟩
  · exact h

/-- A write that changes TIMA's period restarts its accumulator (R113, R355). -/
theorem timerAccOk_writeTac {s : Board} (v : Byte) (h : TimerAccOk s) : TimerAccOk (writeTac v s) := by
  have tac : rawRead (writeTac v s) Io.tac = v := by
    unfold writeTac
    dsimp only
    split <;> exact rawRead_rawWrite_same s Io.tac v
  unfold TimerAccOk
  rw [tac]
  unfold writeTac
  dsimp only
  split
  · exact ⟨h.1, timaPeriod_pos _⟩
  · rename_i hsame
    have rate : (rawRead s Io.tac).extractLsb' 0 2 = v.extractLsb' 0 2 := by
      have low (x : Byte) : (x.extractLsb' 0 3).extractLsb' 0 2 = x.extractLsb' 0 2 := by
        ext i hi; simp
      rw [← low, ← low v, not_not.mp hsame]
    rw [← rate]
    exact h

theorem timerAccOk_writeDiv {s : Board} (h : TimerAccOk s) : TimerAccOk (writeDiv s) := by
  unfold TimerAccOk
  rw [(touches_writeDiv s).bytes Io.tac (by simp)]
  exact ⟨Nat.zero_lt_succ _, h.2⟩

theorem timerAccOk_ioWrite {s : Board} (a : Word) (v : Byte) (h : TimerAccOk s) : TimerAccOk (ioWrite a v s) := by
  by_cases h1 : a = Io.div
  · subst h1; exact timerAccOk_writeDiv h
  by_cases h2 : a = Io.tac
  · subst h2; exact timerAccOk_writeTac v h
  have htac : Io.tac ∉ ioReach a := not_mem_ioReach h2 (fun _ => by decide) (fun _ => by decide) (fun _ => by decide)
  exact timerAccOk_dependsOn.ioWrite v h (by simp) (List.forall_mem_singleton.mpr htac) (fun _ => ⟨h1, h2⟩) (by simp) (by simp)

theorem kept_timerAccOk : Kept TimerAccOk := by
  refine Kept.of_io (fun s t same h => timerAccOk_dependsOn.sameIo (by simp) same h)
    (fun s a v h => timerAccOk_ioWrite a v h) (fun s b h => ?_)
    (fun s n h => timerAccOk_timaStep n (timerAccOk_divStep n h))
    (fun s n h => timerAccOk_dependsOn.touches (touches_ppuStep n s) h)
    (fun s n h => timerAccOk_dependsOn.touches (touches_apuStep n s) h)
  exact timerAccOk_dependsOn.touches (touches_pressButtons b s) (s := { s with buttons := b }) h

/-! ### The PPU's -/

theorem lcdAccOk_dependsOn : DependsOn LcdAccOk [Io.lcdc] false true false := by
  intro s t hl _ hv _ _ _ hs
  unfold LcdAccOk lcdcBit
  rw [hl Io.lcdc (by simp), hv rfl]
  exact hs

@[simp] theorem ppuModeEnd_offAcc (s : Board) : (ppuModeEnd s).ppu.offAcc = s.ppu.offAcc := by
  unfold ppuModeEnd
  dsimp only
  cases s.ppu.mode <;> dsimp only
  · split <;> simp
  · split <;> simp
  · simp
  · simp [renderLine]

theorem ppuLoop_offAcc (n : Nat) (s : Board) : (ppuLoop n s).ppu.offAcc = s.ppu.offAcc :=
  ppuLoop_keeps (P := fun t => t.ppu.offAcc = s.ppu.offAcc) (fun _ _ => id) (fun t h => (ppuModeEnd_offAcc t).trans h) n rfl

/-- A pass takes at least 80 cycles off, so `n` passes finish what is below `80 n` (R370, R372). -/
theorem ppuLoop_acc {n : Nat} {s : Board} (h : s.ppu.acc < 80 * n) : (ppuLoop n s).ppu.acc < (ppuLoop n s).ppu.mode.length := by
  induction n generalizing s with
  | zero => omega
  | succ n ih =>
    unfold ppuLoop
    split
    · assumption
    · have h80 := PpuMode.length_ge s.ppu.mode
      refine ih ?_
      rw [ppuModeEnd_acc]
      dsimp only
      omega

theorem lcdAccOk_ppuStep {s : Board} (n : Nat) (h : LcdAccOk s) : LcdAccOk (ppuStep n s) := by
  have hlcd : lcdcBit (ppuStep n s) 7 = lcdcBit s 7 := by
    unfold lcdcBit
    rw [(touches_ppuStep n s).bytes Io.lcdc (by simp)]
  unfold LcdAccOk
  rw [hlcd]
  unfold ppuStep
  split
  · dsimp only
    refine ⟨?_, fun _ => ppuLoop_acc ?_⟩
    · rw [ppuLoop_offAcc]; exact h.1
    · dsimp only; omega
  · rename_i hoff
    refine ⟨?_, fun hon => absurd hon hoff⟩
    unfold ppuOffStep
    dsimp only
    split <;> exact Nat.mod_lt _ (by decide)

/-- Either switch of the LCD restarts the accumulators (R376, R377). -/
theorem lcdAccOk_writeLcdc {s : Board} (v : Byte) (h : LcdAccOk s) : LcdAccOk (writeLcdc v s) := by
  have stored : rawRead (rawWrite s Io.lcdc v) Io.lcdc = v := rawRead_rawWrite_same s Io.lcdc v
  unfold writeLcdc
  dsimp only
  split_ifs with hdown hup
  · exact ⟨Nat.zero_lt_succ _, fun _ => Nat.zero_lt_succ _⟩
  · refine ⟨?_, fun _ => ?_⟩
    · simpa [ppuEnable, writeStatMode] using h.1
    · simp [ppuEnable, writeStatMode, PpuMode.length]
  · refine ⟨h.1, fun hon => h.2 ?_⟩
    have hv : v.getLsbD 7 = true := by rw [← stored]; exact hon
    unfold lcdcBit
    cases hold : (rawRead s Io.lcdc).getLsbD 7
    · exact absurd (by rw [hold, hv]; rfl) hup
    · rfl

theorem kept_lcdAccOk : Kept LcdAccOk := by
  refine Kept.of_io (fun s t same h => lcdAccOk_dependsOn.sameIo (by simp) same h) (fun s a v h => ?_) (fun s b h => ?_)
    (fun s n h => lcdAccOk_dependsOn.touches (touches_timerStep n s) h) (fun s n h => lcdAccOk_ppuStep n h)
    (fun s n h => lcdAccOk_dependsOn.touches (touches_apuStep n s) h)
  · by_cases ha : a = Io.lcdc
    · subst ha; exact lcdAccOk_writeLcdc v h
    · have hlcdc : Io.lcdc ∉ ioReach a := not_mem_ioReach ha (fun _ => by decide) (fun _ => by decide) (fun _ => by decide)
      exact lcdAccOk_dependsOn.ioWrite v h (by simp) (List.forall_mem_singleton.mpr hlcdc) (by simp) (fun _ => ha) (by simp)
  · exact lcdAccOk_dependsOn.touches (touches_pressButtons b s) (s := { s with buttons := b }) h

/-! ### The APU's -/

theorem soundAccOk_dependsOn : DependsOn SoundAccOk [] false false true := by
  intro s t _ _ _ ha _ hp hs
  unfold SoundAccOk
  rw [ha rfl, hp]
  exact hs

theorem ChannelMoves.soundAccOk {s t : Board} (m : ChannelMoves s t) (h : SoundAccOk s) : SoundAccOk t := by
  obtain ⟨hfs, hds, hparams⟩ := m.counters
  unfold SoundAccOk
  rw [hfs, hds, hparams]
  exact h

theorem soundAccOk_writeNr52 {s : Board} (v : Byte) (h : SoundAccOk s) : SoundAccOk (writeNr52 v s) := by
  unfold writeNr52
  dsimp only
  split_ifs
  · exact (channelMoves_apuPowerOff _).soundAccOk (s := rawWrite s Io.nr52 _) h
  · exact ⟨Nat.zero_lt_succ _, h.2⟩
  · exact h

/-- The frame sequencer's counter restarts at 8192, the downsampler's at its interval (R420). -/
theorem soundAccOk_apuCycle {s : Board} (h : SoundAccOk s) : SoundAccOk (apuCycle s) := by
  obtain ⟨hfs, hds⟩ := h
  have powered : SoundAccOk (apuPoweredCycle s) := by
    refine (channelMoves_timerCycles _).soundAccOk ?_
    split
    · exact (channelMoves_frameSequencerTick _).soundAccOk ⟨Nat.zero_lt_succ _, hds⟩
    · rename_i hne
      exact ⟨show s.apu.fsAcc + 1 < 8192 by omega, hds⟩
  have down {u : Board} (hu : SoundAccOk u) : SoundAccOk (downsampleCycle u) := by
    obtain ⟨hufs, huds⟩ := hu
    unfold downsampleCycle
    dsimp only
    split
    · exact ⟨hufs, show 0 < u.params.apuDownsample by omega⟩
    · rename_i hne
      exact ⟨hufs, show u.apu.dsAcc + 1 < u.params.apuDownsample by omega⟩
  refine down ?_
  split
  · exact powered
  · exact ⟨hfs, hds⟩

theorem soundAccOk_ioWrite {s : Board} (a : Word) (v : Byte) (h : SoundAccOk s) : SoundAccOk (ioWrite a v s) := by
  by_cases hsound : soundAddress a = true
  · rw [ioWrite_of_soundAddress hsound]
    by_cases h52 : a = Io.nr52
    · subst h52; exact soundAccOk_writeNr52 v h
    · exact (channelMoves_apuWrite (fun e => h52 e.symm) v s).soundAccOk h
  · exact soundAccOk_dependsOn.ioWrite v h (by simp) (by simp) (by simp) (by simp) (fun _ => by simpa using hsound)

theorem kept_soundAccOk : Kept SoundAccOk := by
  refine Kept.of_io (fun s t same h => soundAccOk_dependsOn.sameIo (by simp) same h)
    (fun s a v h => soundAccOk_ioWrite a v h) (fun s b h => ?_)
    (fun s n h => soundAccOk_dependsOn.touches (touches_timerStep n s) h)
    (fun s n h => soundAccOk_dependsOn.touches (touches_ppuStep n s) h) (fun s n h => apuStep_keeps (P := SoundAccOk) (fun _ => soundAccOk_apuCycle) n h)
  exact soundAccOk_dependsOn.touches (touches_pressButtons b s) (s := { s with buttons := b }) h

/-- Settles O58: the renderer and the OAM search keep the shape, and each owner brings its accumulator back below its
period before the step ends. -/
theorem everyStepKeepsFrameAndAccumulators : Obligations.EveryStepKeepsFrameAndAccumulators := by
  intro s t h
  refine ⟨kept_frameOk.step h, fun hs => ?_⟩
  obtain ⟨htimer, hlcd, hsound⟩ := (accumulatorsOk_iff s.board).mp hs
  exact (accumulatorsOk_iff t.board).mpr
    ⟨kept_timerAccOk.step h htimer, kept_lcdAccOk.step h hlcd, kept_soundAccOk.step h hsound⟩

end Sys2Proof.Machine
end

section
/-! The state family (spec/10_state.md), the rest: the power switch of the sound registers (R406, R407), what a reset
leaves (R43, R44, R450, R451), and that it meets every invariant of a step. -/

namespace Sys2Proof.Machine

/-! ## The power switch of the APU (R405 to R407) -/

/-- On the I/O page a checked write is the I/O write (R80). -/
theorem memWrite_io {s : Board} {a : Word} (h1 : 0xFF00 ≤ a) (h2 : a ≤ 0xFF7F) (v : Byte) :
    memWrite s a v = ioWrite a v s := by
  have hb := regionOf_bounds s.bootVisible a
  unfold memWrite Board.region
  cases hr : regionOf s.bootVisible a <;> rw [hr] at hb <;> dsimp only at hb ⊢ <;> bv_omega

/-- The APU owns its registers, NR52 and wave RAM (R120, R402). -/
theorem soundAddress_iff (a : Word) :
    soundAddress a = true ↔ a ∈ soundRegisters ∨ a = Io.nr52 ∨ 0xFF30 ≤ a ∧ a ≤ 0xFF3F := by
  rw [mem_soundRegisters]
  simp only [soundAddress, Bool.or_eq_true, Bool.and_eq_true, decide_eq_true_eq]
  bv_omega

/-- With power off a register ignores its writes (R406). -/
theorem memWrite_sound_off {s : Board} {a : Word} (ha : a ∈ soundRegisters) (hoff : apuPowered s = false) (v : Byte) :
    memWrite s a v = s := by
  have hsound : soundAddress a = true := (soundAddress_iff a).mpr (.inl ha)
  rw [mem_soundRegisters] at ha
  have hwave : ¬ (0xFF30 ≤ a ∧ a ≤ 0xFF3F) := by bv_omega
  have h52 : a ≠ Io.nr52 := by bv_omega
  rw [memWrite_io (by bv_omega) (by bv_omega), ioWrite_of_soundAddress hsound, apuWrite, if_neg hwave, if_neg h52, hoff]
  rfl

/-- Wave RAM and the two addresses without a register are plain storage (R43, R402, R406). -/
theorem memWrite_sound_storage {a : Word} (ha : 0xFF30 ≤ a ∧ a ≤ 0xFF3F ∨ a = 0xFF15 ∨ a = 0xFF1F) (v : Byte) (s : Board) :
    memWrite s a v = rawWrite s a v := by
  rw [memWrite_io (by bv_omega) (by bv_omega)]
  rcases ha with hwave | rfl | rfl
  · rw [ioWrite_of_soundAddress ((soundAddress_iff a).mpr (.inr (.inr hwave))), apuWrite, if_pos hwave]
  · rfl
  · rfl

/-- NR52 after the power is switched off: no status bit (R405, R407). -/
theorem apuPowerOff_nr52 (s : Board) : rawRead (apuPowerOff s) Io.nr52 = rawRead s Io.nr52 &&& 0xF0 := by
  have off (ch : Chan) (u : Board) :
      rawRead (setEnabled ch false u) Io.nr52 = rawRead u Io.nr52 &&& ~~~(1#8 <<< ch.bit) := rawRead_rawWrite_same _ _ _
  have cleared : rawRead (clearRegisters soundRegisters s) Io.nr52 = rawRead s Io.nr52 := by
    rw [rawRead_clearRegisters, if_neg (by simp [soundRegisters])]
  unfold apuPowerOff
  dsimp only
  rw [mapApu_rawRead, off, off, off, off, cleared]
  simp only [BitVec.and_assoc]
  rfl

/-- Every register reads 0 after the power is switched off (R407). -/
theorem apuPowerOff_register {a : Word} (ha : a ∈ soundRegisters) (s : Board) : rawRead (apuPowerOff s) a = 0 := by
  have h52 : a ∉ [Io.nr52] := by
    rw [mem_soundRegisters] at ha
    simp only [List.mem_singleton]
    bv_omega
  have off (ch : Chan) (u : Board) : rawRead (setEnabled ch false u) a = rawRead u a :=
    (touches_setEnabled ch false u).bytes a h52
  unfold apuPowerOff
  dsimp only
  rw [mapApu_rawRead, off, off, off, off, rawRead_clearRegisters, if_pos ha]

theorem apuPowerOff_en (s : Board) (ch : Chan) : ((apuPowerOff s).apu.channel ch).en = false := by cases ch <;> rfl

/-- What a write of NR52 stores before the switch (R406). -/
def storeNr52 (v : Byte) (s : Board) : Board := rawWrite s Io.nr52 ((v &&& 0xF0) ||| (rawRead s Io.nr52 &&& 0x0F))

theorem memWrite_nr52 (v : Byte) (s : Board) : memWrite s Io.nr52 v = writeNr52 v s := by
  rw [memWrite_io (by decide) (by decide)]; rfl

theorem writeNr52_off {s : Board} {v : Byte} (hon : apuPowered s = true) (hv : v.getLsbD 7 = false) :
    writeNr52 v s = apuPowerOff (storeNr52 v s) := by
  unfold writeNr52; rw [hon, hv]; rfl

theorem writeNr52_on {s : Board} {v : Byte} (hoff : apuPowered s = false) (hv : v.getLsbD 7 = true) :
    writeNr52 v s = mapApu (fun p => { p with fsStep := 0, fsAcc := 0 }) (storeNr52 v s) := by
  unfold writeNr52; rw [hoff, hv]; rfl

/-- Settles O44: a write goes to the APU's rule, to plain storage, or, with the power off, nowhere; the switch itself
touches NR52 and the registers alone. -/
theorem soundPowerGate : Obligations.SoundPowerGate := by
  intro s v register storage
  have reg {a : Word} (ha : register a) : a ∈ soundRegisters := (mem_soundRegisters a).mpr ha
  refine ⟨fun a ha hoff => memWrite_sound_off (reg ha) hoff v, fun a ha => memWrite_sound_storage ha v s, ?_⟩
  intro t
  have ht : t = writeNr52 v s := memWrite_nr52 v s
  rw [ht]
  refine ⟨fun a ha => (touches_writeNr52 v s).bytes a ?_, fun hon hv => ?_, fun hoff hv => ?_⟩
  · rw [List.mem_cons, mem_soundRegisters]
    dsimp only [storage] at ha
    bv_omega
  · rw [writeNr52_off hon hv]
    refine ⟨?_, fun a ha => apuPowerOff_register (reg ha) _, apuPowerOff_en _, rfl, rfl, rfl, rfl, rfl, rfl, rfl, rfl, rfl, rfl⟩
    rw [apuPowerOff_nr52, storeNr52, rawRead_rawWrite_same, BitVec.and_or_distrib_right, BitVec.and_assoc, BitVec.and_assoc]
    simp
  · rw [writeNr52_on hoff hv]
    exact ⟨rawRead_rawWrite_same _ _ _, rfl⟩

/-! ## Reset (R43, R44, R450, R451) -/

/-- Memory that nothing has written reads as the reset left it, where a reset leaves a value (R43, R44). -/
theorem rawRead_unwritten {s : Board} {a : Word} {v : Byte} (hm : s.mem = []) (hv : unlisted s.params.entry a.toNat = some v) :
    rawRead s a = v := by
  rw [rawRead, Board.byteAt, hm, Memory.get_eq, Memory.find?_nil, hv]
  rfl

/-- A register of the I/O page, or IE, has its value of R43 after a reset. -/
theorem unlisted_io (e : Entry) {a : Word} (ha : 0xFF00 ≤ a ∧ a ≤ 0xFF2F ∨ 0xFF40 ≤ a ∧ a ≤ 0xFF7F ∨ a = 0xFFFF) :
    unlisted e a.toNat = some (ioReset e a.toNat) := by
  unfold unlisted
  rw [if_neg (by bv_omega), if_neg (by bv_omega), if_neg (by bv_omega), if_neg (by bv_omega), if_pos (by bv_omega)]

/-- Video RAM but for the logo's cells is 0x00 at `PostBoot` (R44). -/
theorem unlisted_vram {a : Word} (h1 : 0x8000 ≤ a) (h2 : a ≤ 0x9FFF) (hl : bootLogo a.toNat = false) :
    unlisted .postBoot a.toNat = some 0 := by
  unfold unlisted
  rw [if_neg (by bv_omega), if_pos (by bv_omega), if_pos ⟨rfl, hl⟩]

/-- An address of the I/O page without a register (R43, D26). -/
def functionless (a : Word) : Prop :=
  a = 0xFF03 ∨ 0xFF08 ≤ a ∧ a ≤ 0xFF0E ∨ a = 0xFF15 ∨ a = 0xFF1F ∨ 0xFF27 ≤ a ∧ a ≤ 0xFF2F ∨
    0xFF4C ≤ a ∧ a ≤ 0xFF4F ∨ 0xFF51 ≤ a ∧ a ≤ 0xFF7F

/-- The rows of R43 hold 0x00 where there is no register. -/
theorem ioReset_functionless {a : Word} (h : functionless a) : ioReset .postBoot a.toNat = 0 := by
  have rows : ∀ k < 0x80, functionless (BitVec.ofNat 16 (0xFF00 + k)) → ioReset .postBoot (0xFF00 + k) = 0 := by
    unfold functionless; decide
  have hk : a.toNat = 0xFF00 + (a.toNat - 0xFF00) := by unfold functionless at h; bv_omega
  have hr := rows (a.toNat - 0xFF00) (by unfold functionless at h; bv_omega)
  rw [← hk] at hr
  exact hr (by rwa [BitVec.ofNat_toNat, BitVec.setWidth_eq])

theorem ioReset_powerOn (a : Word) : ioReset .powerOn a.toNat = if a = 0xFF00 then 0x0F else 0x00 := by
  have h : a.toNat = 0xFF00 ↔ a = 0xFF00 := BitVec.toNat_inj (y := 0xFF00#16)
  simp only [ioReset, h]

/-- A table of addresses and bytes, checked as one list. -/
theorem busRead_of_all {l : List (Word × Byte)} {s : State} (h : (l.all fun q => busRead s q.1 == q.2) = true) :
    ∀ p ∈ l, busRead s p.1 = p.2 := fun p hp => eq_of_beq (List.all_eq_true.mp h p hp)

/-- Settles O52: both entries leave memory with nothing written, so it reads as the tables of R43 and R44 say; the rest is
what the reset puts there. -/
theorem resetValues : Obligations.ResetValues := by
  refine ⟨?_, fun regs s => ?_, fun regs s => ?_⟩
  · refine ⟨rfl, rfl, rfl, rfl, rfl, rfl, rfl, rfl, rfl, rfl, rfl, rfl, rfl, rfl, rfl, rfl, fun p hp => ?_, fun a ha => ?_,
      fun a h1 h2 hl => ?_⟩
    · refine busRead_of_all ?_ p hp
      rfl
    · have h : functionless a := ha
      have hio : 0xFF00 ≤ a ∧ a ≤ 0xFF2F ∨ 0xFF40 ≤ a ∧ a ≤ 0xFF7F ∨ a = 0xFFFF := by bv_omega
      refine (memRead_eq_rawRead (.inr (by bv_omega))).trans ?_
      rw [rawRead_unwritten rfl (unlisted_io _ hio)]
      exact ioReset_functionless h
    · exact (memRead_eq_rawRead (.inl ⟨h1, h2⟩)).trans (rawRead_unwritten rfl (unlisted_vram h1 h2 hl))
  · exact ⟨rfl, rfl, rfl, rfl, rfl, rfl, rfl, rfl, rfl, rfl, fun a => rfl⟩
  · refine ⟨rfl, and_f0_low _, rfl, rfl, rfl, rfl, rfl, rfl, rfl, rfl, fun a ha => ?_⟩
    rw [rawRead_unwritten rfl (unlisted_io _ ha)]
    exact ioReset_powerOn a

/-- Settles O53: nothing is listed in any store, the mirrored bits of the PostBoot column of R43 are those of the hidden
state of R44, and the rest is counted. -/
theorem resetMeetsEveryInvariant : Obligations.ResetMeetsEveryInvariant := by
  refine ⟨?_, ?_, ?_, ?_, ?_, ?_, ?_, ?_, ?_, ?_⟩
  · exact ⟨Memory.wf_nil _, .nil, .nil, .nil⟩
  · unfold FlagsOk; decide
  · unfold BankOk; decide
  · unfold JoypadOk; decide
  · unfold StatModeOk; decide
  · intro ch; cases ch <;> decide
  · unfold LineOk
    rw [if_pos (by decide)]
    exact .inl (by decide)
  · unfold CoincidenceOk; decide
  · exact ⟨blankFrame_shape.1, blankFrame_shape.2, Nat.zero_le _, fun k hk => absurd hk List.not_mem_nil⟩
  · unfold AccumulatorsOk; decide

end Sys2Proof.Machine
end

section
/-! The memory family (spec/20_memory.md), the coincidence bit: whatever is written or counted, STAT[2] says whether
LY = LYC while the LCD is enabled (R116, R362, R375, R377). -/

namespace Sys2Proof.Machine

/-! ## What the line compare leaves (R375) -/

@[simp] theorem lycCompare_lyc (s : Board) : rawRead (lycCompare s) Io.lyc = rawRead s Io.lyc :=
  (touches_lycCompare s).bytes _ (by simp)

/-- STAT[2] after the compare is its answer. -/
theorem lycCompare_stat_bit2 (s : Board) :
    (rawRead (lycCompare s) Io.stat).getLsbD 2 = decide (rawRead s Io.ly = rawRead s Io.lyc) := by
  rw [lycCompare_stat]
  split
  · rename_i h; rw [decide_eq_true h]; simp
  · rename_i h; rw [decide_eq_false h]; simp

/-! ## The bit is kept by everything that can happen to the board -/

theorem coincidenceOk_dependsOn : DependsOn CoincidenceOk [Io.lcdc, Io.stat, Io.ly, Io.lyc] false false false := by
  intro s t hl _ _ _ _ _ hs
  unfold CoincidenceOk lcdcBit
  rw [hl Io.lcdc (by simp), hl Io.stat (by simp), hl Io.ly (by simp), hl Io.lyc (by simp)]
  exact hs

/-- The compare restores the bit, whatever it was. -/
theorem coincidenceOk_lycCompare (s : Board) : CoincidenceOk (lycCompare s) := by
  intro _
  rw [lycCompare_stat_bit2, lycCompare_ly, lycCompare_lyc]

/-- With the LCD off the bit is not asked for. -/
theorem coincidenceOk_of_lcd_off {s : Board} (h : lcdcBit s 7 = false) : CoincidenceOk s :=
  fun hon => absurd (h.symm.trans hon) (by decide)

/-- A write of STAT that keeps bit 2 keeps the rest of what the bit is about. -/
theorem coincidenceOk_rawWrite_stat {s : Board} {w : Byte} (hw : w.getLsbD 2 = (rawRead s Io.stat).getLsbD 2)
    (h : CoincidenceOk s) : CoincidenceOk (rawWrite s Io.stat w) := by
  unfold CoincidenceOk lcdcBit
  rw [rawRead_rawWrite_same, hw, rawRead_rawWrite_other s w (by decide), rawRead_rawWrite_other s w (by decide),
    rawRead_rawWrite_other s w (by decide)]
  exact h

/-- Entering a mode writes STAT[1:0] alone (R373). -/
theorem coincidenceOk_setMode {s : Board} (m : PpuMode) (h : CoincidenceOk s) : CoincidenceOk (setMode m s) := by
  have bit2 : ((rawRead s Io.stat &&& 0xFC) ||| m.code).getLsbD 2 = (rawRead s Io.stat).getLsbD 2 := by
    cases m <;> simp [PpuMode.code]
  have stored : CoincidenceOk (writeStatMode m { s with ppu := { s.ppu with mode := m } }) :=
    coincidenceOk_rawWrite_stat (s := { s with ppu := { s.ppu with mode := m } }) bit2 h
  unfold setMode
  dsimp only
  split
  · exact coincidenceOk_dependsOn.touches (touches_requestInterrupt _ _) stored
  · exact stored

/-- LY moves at the end of H-blank and V-blank lines only, and each time it is compared at once (R372). -/
theorem coincidenceOk_ppuModeEnd {s : Board} (h : CoincidenceOk s) : CoincidenceOk (ppuModeEnd s) := by
  unfold ppuModeEnd
  dsimp only
  cases s.ppu.mode <;> dsimp only
  case hblank =>
    split
    · have entered := coincidenceOk_setMode .vblank (coincidenceOk_lycCompare (rawWrite s Io.ly (rawRead s Io.ly + 1)))
      exact coincidenceOk_dependsOn.touches (touches_frameDone _)
        (coincidenceOk_dependsOn.touches (touches_raiseVBlank _) entered)
    · exact coincidenceOk_setMode _ (coincidenceOk_lycCompare _)
  case vblank =>
    split
    · exact coincidenceOk_setMode _ (coincidenceOk_lycCompare _)
    · exact coincidenceOk_lycCompare _
  case oamSearch => exact coincidenceOk_setMode _ h
  case transfer => exact coincidenceOk_setMode _ (coincidenceOk_dependsOn.touches (touches_renderLine s _) h)

theorem coincidenceOk_ppuStep {s : Board} (n : Nat) (h : CoincidenceOk s) : CoincidenceOk (ppuStep n s) := by
  unfold ppuStep
  split
  · exact ppuLoop_keeps (P := CoincidenceOk) (fun _ _ => id) (fun _ => coincidenceOk_ppuModeEnd) _ h
  · exact coincidenceOk_dependsOn.touches (touches_ppuOffStep n s) h

/-- Switching the LCD on compares the lines, switching it off ends the question (R376, R377). -/
theorem coincidenceOk_writeLcdc {s : Board} (v : Byte) (h : CoincidenceOk s) : CoincidenceOk (writeLcdc v s) := by
  have stored : lcdcBit (rawWrite s Io.lcdc v) 7 = v.getLsbD 7 := by rw [lcdcBit, rawRead_rawWrite_same]
  unfold writeLcdc
  dsimp only
  split_ifs with hdown hup
  · refine coincidenceOk_of_lcd_off ?_
    rw [lcdcBit, (touches_ppuDisable _).bytes Io.lcdc (by simp), ← lcdcBit, stored]
    simp_all
  · exact coincidenceOk_lycCompare _
  · cases hv : v.getLsbD 7
    · exact coincidenceOk_of_lcd_off (stored.trans hv)
    · have hold : lcdcBit s 7 = true := by
        unfold lcdcBit
        simpa [hv] using hup
      unfold CoincidenceOk
      rw [rawRead_rawWrite_other s v (by decide), rawRead_rawWrite_other s v (by decide),
        rawRead_rawWrite_other s v (by decide)]
      exact fun _ => h hold

theorem coincidenceOk_writeLyc (v : Byte) (s : Board) : CoincidenceOk (writeLyc v s) := by
  unfold writeLyc
  dsimp only
  split
  · exact coincidenceOk_lycCompare _
  · rename_i hoff
    exact coincidenceOk_of_lcd_off (Bool.eq_false_iff.mpr hoff)

theorem coincidenceOk_writeStat {s : Board} (v : Byte) (h : CoincidenceOk s) : CoincidenceOk (writeStat v s) :=
  coincidenceOk_rawWrite_stat (by simp) h

theorem coincidenceOk_ioWrite {s : Board} (a : Word) (v : Byte) (h : CoincidenceOk s) : CoincidenceOk (ioWrite a v s) := by
  by_cases h1 : a = Io.lcdc
  · subst h1; exact coincidenceOk_writeLcdc v h
  by_cases h2 : a = Io.stat
  · subst h2; exact coincidenceOk_writeStat v h
  by_cases h3 : a = Io.ly
  · subst h3; exact h
  by_cases h4 : a = Io.lyc
  · subst h4; exact coincidenceOk_writeLyc v s
  have away {b : Word} (hne : a ≠ b) (hb : soundAddress b = false) : b ∉ ioReach a :=
    not_mem_ioReach hne (fun _ => hb) (fun e => absurd e h1) (fun e => absurd e h4)
  refine coincidenceOk_dependsOn.ioWrite v h (by simp) ?_ (by simp) (by simp) (by simp)
  simp only [List.forall_mem_cons]
  exact ⟨away h1 rfl, away h2 rfl, away h3 rfl, away h4 rfl, List.forall_mem_nil _⟩

theorem kept_coincidenceOk : Kept CoincidenceOk := by
  refine Kept.of_io (fun s t same h => coincidenceOk_dependsOn.sameIo (by simp) same h)
    (fun s a v h => coincidenceOk_ioWrite a v h) (fun s b h => ?_)
    (fun s n h => coincidenceOk_dependsOn.touches (touches_timerStep n s) h) (fun s n h => coincidenceOk_ppuStep n h)
    (fun s n h => coincidenceOk_dependsOn.touches (touches_apuStep n s) h)
  exact coincidenceOk_dependsOn.touches (touches_pressButtons b s) (s := { s with buttons := b }) h

/-- Settles O57: LY and LYC are written only where the line compare follows at once or the LCD is off, and no other write
of STAT reaches its bit 2. -/
theorem everyStepKeepsTheCoincidenceBit : Obligations.EveryStepKeepsTheCoincidenceBit :=
  fun _ _ hs h => kept_coincidenceOk.step h hs

end Sys2Proof.Machine
end

section
/-! The memory family (spec/20_memory.md), the address map and the bank controller: which region an address is in, what a
checked read and write do there (R63 to R72, R80, R96 to R102). -/

namespace Sys2Proof.Machine

/-! ## The region of an address (R63) -/

section
variable {s : Board} {a : Word}

theorem region_boot (hb : s.bootVisible = true) (h : a ≤ 0x00FF) : s.region a = .boot := if_pos ⟨hb, h⟩

/-- Past the boot region the boot ROM's visibility does not matter. -/
theorem region_of_not_boot (h : ¬ (s.bootVisible = true ∧ a ≤ 0x00FF)) : s.region a = regionOf false a :=
  (if_neg h).trans (if_neg (fun k : false = true ∧ a ≤ 0x00FF => absurd k.1 (by decide))).symm

theorem region_rom (hb : ¬ (s.bootVisible = true ∧ a ≤ 0x00FF)) (h : a ≤ 0x7FFF) : s.region a = .rom :=
  (region_of_not_boot hb).trans (if_pos h)

theorem region_vram (h1 : 0x8000 ≤ a) (h2 : a ≤ 0x9FFF) : s.region a = .vram := by
  unfold Board.region regionOf
  rw [if_neg (by bv_omega), if_neg (by bv_omega), if_pos h2]

theorem region_extRam (h1 : 0xA000 ≤ a) (h2 : a ≤ 0xBFFF) : s.region a = .extRam := by
  unfold Board.region regionOf
  rw [if_neg (by bv_omega), if_neg (by bv_omega), if_neg (by bv_omega), if_pos h2]

theorem region_wram (h1 : 0xC000 ≤ a) (h2 : a ≤ 0xDFFF) : s.region a = .wram := by
  unfold Board.region regionOf
  rw [if_neg (by bv_omega), if_neg (by bv_omega), if_neg (by bv_omega), if_neg (by bv_omega), if_pos h2]

theorem region_echo (h1 : 0xE000 ≤ a) (h2 : a ≤ 0xFDFF) : s.region a = .echo := by
  unfold Board.region regionOf
  rw [if_neg (by bv_omega), if_neg (by bv_omega), if_neg (by bv_omega), if_neg (by bv_omega), if_neg (by bv_omega),
    if_pos h2]

theorem region_oam (h1 : 0xFE00 ≤ a) (h2 : a ≤ 0xFE9F) : s.region a = .oam := by
  unfold Board.region regionOf
  rw [if_neg (by bv_omega), if_neg (by bv_omega), if_neg (by bv_omega), if_neg (by bv_omega), if_neg (by bv_omega),
    if_neg (by bv_omega), if_pos h2]

theorem region_crash (h1 : 0xFEA0 ≤ a) (h2 : a ≤ 0xFEFF) : s.region a = .crash := by
  unfold Board.region regionOf
  rw [if_neg (by bv_omega), if_neg (by bv_omega), if_neg (by bv_omega), if_neg (by bv_omega), if_neg (by bv_omega),
    if_neg (by bv_omega), if_neg (by bv_omega), if_pos h2]

theorem region_high (h : 0xFF80 ≤ a) : s.region a = .high := by
  unfold Board.region regionOf
  rw [if_neg (by bv_omega), if_neg (by bv_omega), if_neg (by bv_omega), if_neg (by bv_omega), if_neg (by bv_omega),
    if_neg (by bv_omega), if_neg (by bv_omega), if_neg (by bv_omega), if_neg (by bv_omega)]

/-- Nothing outside 0xFEA0..0xFEFF is in the crash region (R69). -/
theorem region_ne_crash (h : ¬ (0xFEA0 ≤ a ∧ a ≤ 0xFEFF)) : s.region a ≠ .crash := by
  intro hr
  have hb := regionOf_bounds s.bootVisible a
  rw [show regionOf s.bootVisible a = .crash from hr] at hb
  exact h hb

/-- The cells a program stores to directly: video RAM, work RAM, OAM, high RAM and IE (R66, R68, R69, R72). -/
theorem region_plain (h : 0x8000 ≤ a ∧ a ≤ 0x9FFF ∨ 0xC000 ≤ a ∧ a ≤ 0xDFFF ∨ 0xFE00 ≤ a ∧ a ≤ 0xFE9F ∨ 0xFF80 ≤ a) :
    s.region a = .vram ∨ s.region a = .wram ∨ s.region a = .oam ∨ s.region a = .high := by
  rcases h with ⟨h1, h2⟩ | ⟨h1, h2⟩ | ⟨h1, h2⟩ | h
  · exact .inl (region_vram h1 h2)
  · exact .inr (.inl (region_wram h1 h2))
  · exact .inr (.inr (.inl (region_oam h1 h2)))
  · exact .inr (.inr (.inr (region_high h)))

/-! ## Reads and writes by region (R70, R80) -/

theorem memRead_plain (h : s.region a = .vram ∨ s.region a = .wram ∨ s.region a = .oam ∨ s.region a = .high) :
    memRead s a = rawRead s a := by
  rcases h with h | h | h | h <;> simp only [memRead, h]

theorem memWrite_plain (h : s.region a = .vram ∨ s.region a = .wram ∨ s.region a = .oam ∨ s.region a = .high) (v : Byte) :
    memWrite s a v = rawWrite s a v := by
  rcases h with h | h | h | h <;> simp only [memWrite, h]

theorem memRead_extRam (h : s.region a = .extRam) :
    memRead s a = if s.cart.ramUsable = true then s.cart.ramByte (s.cart.ramOffset a) else 0xFF := by
  simp only [memRead, h]

/-- Echo RAM is work RAM 0x2000 lower (R68). -/
theorem region_echo_source (h1 : 0xE000 ≤ a) (h2 : a ≤ 0xFDFF) : s.region (a - 0x2000) = .wram :=
  region_wram (by bv_omega) (by bv_omega)

theorem memRead_echo (h1 : 0xE000 ≤ a) (h2 : a ≤ 0xFDFF) : memRead s a = rawRead s (a - 0x2000) := by
  simp only [memRead, region_echo h1 h2]

theorem memWrite_echo (h1 : 0xE000 ≤ a) (h2 : a ≤ 0xFDFF) (v : Byte) : memWrite s a v = rawWrite s (a - 0x2000) v := by
  simp only [memWrite, region_echo h1 h2]

end

/-! ## External RAM (R67) -/

theorem ramUsable_iff (c : Cartridge) : c.ramUsable = true ↔ c.kind = .mbc1 ∧ 0 < c.ramBanks ∧ c.ramEnable = true := by
  simp [Cartridge.ramUsable, and_assoc]

/-- Read over write in `cart_ram`. -/
theorem ramByte_put (c : Cartridge) (n k : Nat) (v : Byte) :
    Cartridge.ramByte { c with ram := c.ram.put n v } k = if k = n then v else c.ramByte k := by
  unfold Cartridge.ramByte
  rw [Memory.find?_put]
  split <;> rfl

theorem memWrite_extRam {s : Board} {a : Word} (h : s.region a = .extRam) (v : Byte) :
    memWrite s a v = if s.cart.ramUsable = true
      then { s with cart := { s.cart with ram := s.cart.ram.put (s.cart.ramOffset a) v } } else s := by
  simp only [memWrite, h]; rfl

/-! ## The two checked operations -/

/-- Only a read of the crash region takes a draw (R70). -/
theorem afterMemRead_eq (s : Board) (a : Word) :
    afterMemRead s a = { s with draws := if 0xFEA0 ≤ a ∧ a ≤ 0xFEFF then s.draws + 1 else s.draws } := by
  split
  · rename_i h; simp only [afterMemRead, region_crash h.1 h.2]
  · rename_i h
    unfold afterMemRead
    split
    case h_1 hcrash => exact absurd hcrash (region_ne_crash h)
    all_goals rfl

/-- Settles O38: the address decides the region, and each region has one store behind it. -/
theorem readFollowsTheRegionMap : Obligations.ReadFollowsTheRegionMap := by
  intro s a
  refine ⟨fun hb h => ?_, fun hb => ⟨fun h => ?_, fun h1 h2 => ?_⟩, fun h1 h2 => ?_, fun h1 h2 => ?_, fun h1 h2 => ?_,
    fun h1 h2 => ?_, fun h1 h2 => ?_, fun h1 h2 => ?_, fun h => ?_, afterMemRead_eq s a⟩
  · simp only [memRead, region_boot hb h]
  · have low : s.cart.romOffset a = a.toNat := if_pos h
    simp only [memRead, region_rom hb (show a ≤ 0x7FFF by bv_omega), low]
  · have selected : s.cart.romOffset a = s.cart.romBank * 0x4000 + (a.toNat - 0x4000) := if_neg (by bv_omega)
    simp only [memRead, region_rom hb h2, selected]
  · exact memRead_plain (region_plain (.inl ⟨h1, h2⟩))
  · simp only [memRead_extRam (region_extRam h1 h2), ramUsable_iff]; rfl
  · exact memRead_plain (region_plain (.inr (.inl ⟨h1, h2⟩)))
  · rw [memRead_echo h1 h2, memRead_plain (.inr (.inl (region_echo_source h1 h2)))]
  · exact memRead_plain (region_plain (.inr (.inr (.inl ⟨h1, h2⟩))))
  · simp only [memRead, region_crash h1 h2]
  · exact memRead_eq_rawRead (.inr h)

/-- Settles O39: a rejected write is no write, a stored byte is read back where the region keeps it, and the rest goes to
the bank controller or to the I/O registers. -/
theorem writeFollowsTheRegionMap : Obligations.WriteFollowsTheRegionMap := by
  intro s a v
  refine ⟨fun hb h => ?_, fun h1 h2 => ?_, fun hb h => ⟨?_, (sameParts_memWrite s a v).rom⟩, fun h1 h2 => ?_, fun h => ?_,
    fun h1 h2 => ?_, fun h1 h2 => memWrite_io h1 h2 v⟩
  · simp only [memWrite, region_boot hb h]
  · simp only [memWrite, region_crash h1 h2]
  · simp only [memWrite, region_rom hb h]
  · have hr : s.region a = .extRam := region_extRam h1 h2
    rw [memWrite_extRam hr]
    simp only [← ramUsable_iff]
    split
    · rename_i hu
      have bytes (k : Nat) := ramByte_put s.cart (s.cart.ramOffset a) k v
      refine ⟨Eq.trans (memRead_extRam ?_) ((if_pos hu).trans ((bytes _).trans (if_pos rfl))), rfl, bytes⟩
      exact hr
    · rfl
  · have hr : s.region a = .vram ∨ s.region a = .wram ∨ s.region a = .oam ∨ s.region a = .high := region_plain h
    rw [memWrite_plain hr]
    exact ⟨rfl, (memRead_plain (s := rawWrite s a v) hr).trans (rawRead_rawWrite_same s a v)⟩
  · have source (t : Board) := region_echo_source (s := t) h1 h2
    rw [memWrite_echo h1 h2, memWrite_plain (.inr (.inl (source s))), memRead_echo h1 h2,
      memRead_plain (.inr (.inl (source _)))]
    exact ⟨rfl, rawRead_rawWrite_same _ _ _, rawRead_rawWrite_same _ _ _⟩

/-! ## The bank controller (R96 to R102) -/

/-- The low bits of a byte, as a field and as a remainder. -/
theorem extractLsb'_zero_eq_ofNat (v : Byte) (n : Nat) : v.extractLsb' 0 n = BitVec.ofNat n v.toNat :=
  BitVec.eq_of_toNat_eq rfl

theorem low_nibble_eq_0A_iff (v : Byte) : v &&& 0x0F = 0x0A ↔ v.toNat % 16 = 0x0A := by
  rw [← BitVec.toNat_inj, BitVec.toNat_and]
  exact Eq.congr_left (Nat.and_two_pow_sub_one_eq_mod v.toNat 4)

theorem ofNat5_eq_zero_iff (v : Byte) : BitVec.ofNat 5 v.toNat = 0 ↔ v.toNat % 32 = 0 := by
  rw [← BitVec.toNat_inj, BitVec.toNat_ofNat]; rfl

theorem getLsbD_zero_eq (v : Byte) : v.getLsbD 0 = decide (v.toNat % 2 = 1) := by
  rw [BitVec.getLsbD, Nat.testBit_zero]

/-- The two bank registers side by side are `bank_hi * 32 + bank_lo` (R97). -/
theorem toNat_bankHi_append_bankLo (hi : BitVec 2) (lo : BitVec 5) : (hi ++ lo).toNat = 32 * hi.toNat + lo.toNat := by
  rw [BitVec.toNat_append, ← Nat.shiftLeft_add_eq_or_of_lt lo.isLt, Nat.shiftLeft_eq, Nat.mul_comm]

/-- Settles O40: the four command ranges, the value each stores, and the banks the registers select. -/
theorem bankControllerCommands : Obligations.BankControllerCommands := by
  refine ⟨fun c a v hk => ⟨?_, ?_, ?_⟩, fun c a v hk => ⟨fun h => ?_, fun h1 h2 => ?_, fun h1 h2 => ?_, fun h1 h2 => ?_, ?_,
    fun _ => ?_⟩⟩
  · simp only [Cartridge.bankWrite, hk]
  · simp only [Cartridge.romBank, hk]
  · rw [Cartridge.ramUsable, hk]; rfl
  · simp only [Cartridge.bankWrite, hk, if_pos h, low_nibble_eq_0A_iff]
  · simp only [Cartridge.bankWrite, hk, if_neg (show ¬ a ≤ 0x1FFF by bv_omega), if_pos h2, extractLsb'_zero_eq_ofNat,
      ofNat5_eq_zero_iff]
  · simp only [Cartridge.bankWrite, hk, if_neg (show ¬ a ≤ 0x1FFF by bv_omega), if_neg (show ¬ a ≤ 0x3FFF by bv_omega),
      if_pos h2, extractLsb'_zero_eq_ofNat]
  · simp only [Cartridge.bankWrite, hk, if_neg (show ¬ a ≤ 0x1FFF by bv_omega), if_neg (show ¬ a ≤ 0x3FFF by bv_omega),
      if_neg (show ¬ a ≤ 0x5FFF by bv_omega), getLsbD_zero_eq]
  · simp only [Cartridge.romBank, hk, toNat_bankHi_append_bankLo]
  · rw [Cartridge.ramBank]
    split
    · rfl
    · exact Nat.zero_mod _

end Sys2Proof.Machine
end

section
/-! The memory family (spec/20_memory.md), writes to the I/O registers: each owner's rule in closed form, and the two
switches of the LCD with the line compare (R111 to R121, R355, R376, R377). -/

namespace Sys2Proof.Machine

/-! ## P1 (R111, R345) -/

/-- The lower nibble shows the lines: a selected group pulls a pressed line to 0. -/
theorem joypadNibble_getLsbD (sel : BitVec 2) (buttons : Byte) {n : Nat} (hn : n < 4) :
    (joypadNibble sel buttons).getLsbD n =
      !((!sel.getLsbD 0 && buttons.getLsbD n) || (!sel.getLsbD 1 && buttons.getLsbD (n + 4))) := by
  have ones : (0xF#4)[n] = true := BitVec.getElem_allOnes n hn
  unfold joypadNibble
  dsimp only
  cases sel.getLsbD 0 <;> cases sel.getLsbD 1 <;> simp [hn, ones, Nat.add_comm 4 n]

/-- P1 as it reads after a write of `v`: the upper nibble of `v`, the lines below. -/
theorem p1Value_getLsbD (v buttons : Byte) {n : Nat} (hn : n < 8) :
    (p1Value v buttons).getLsbD n = if 4 ≤ n then v.getLsbD n
      else !((!v.getLsbD 4 && buttons.getLsbD n) || (!v.getLsbD 5 && buttons.getLsbD (n + 4))) := by
  unfold p1Value
  rw [BitVec.getLsbD_or, BitVec.getLsbD_and, BitVec.getLsbD_setWidth]
  split
  · rename_i h4
    have upper : (0xF0 : Byte).getLsbD n = true := by interval_cases n <;> rfl
    rw [upper, BitVec.getLsbD_of_ge (joypadNibble _ _) n h4]
    simp
  · rename_i h4
    have lower : (0xF0 : Byte).getLsbD n = false := by interval_cases n <;> rfl
    rw [lower, joypadNibble_getLsbD _ _ (by omega)]
    simp [hn]

theorem memWrite_p1 (s : Board) (v : Byte) : memWrite s Io.p1 v = rawWrite s Io.p1 (p1Value v s.buttons) := by
  rw [memWrite_io (by decide) (by decide)]; rfl

/-! ## TAC (R113, R355) -/

/-- Bits 2..0 of a byte, as a field and as a remainder. -/
theorem low3_eq_iff (v w : Byte) : v.extractLsb' 0 3 = w.extractLsb' 0 3 ↔ v.toNat % 8 = w.toNat % 8 := by
  rw [← BitVec.toNat_inj]; simp

theorem writeTac_eq (v : Byte) (s : Board) :
    writeTac v s = if v.toNat % 8 = (rawRead s Io.tac).toNat % 8 then rawWrite s Io.tac v
      else { rawWrite s Io.tac v with timer := { s.timer with timaAcc := 0 } } := by
  unfold writeTac
  simp only [ne_eq, low3_eq_iff, eq_comm (a := v.toNat % 8), ite_not]
  rfl

/-! ## LYC (R116, R375) -/

theorem memWrite_lyc (s : Board) (v : Byte) :
    memWrite s Io.lyc v =
      if (rawRead s Io.lcdc).getLsbD 7 = true then lycCompare (rawWrite s Io.lyc v) else rawWrite s Io.lyc v := by
  have lcdc : rawRead (rawWrite s Io.lyc v) Io.lcdc = rawRead s Io.lcdc := rawRead_rawWrite_other s v (by decide)
  rw [← lcdc, memWrite_io (by decide) (by decide)]
  rfl

/-- Settles O41: on the I/O page a checked write is the rule of the register's owner, which is read off for each. -/
theorem writesToTheControlRegisters : Obligations.WritesToTheControlRegisters := by
  intro s v
  have onIo {a : Word} (h1 : 0xFF00 ≤ a) (h2 : a ≤ 0xFF7F) := memWrite_io (s := s) h1 h2 v
  refine ⟨⟨?_, fun n hn => ?_⟩, onIo (by decide) (by decide), ?_, onIo (by decide) (by decide), onIo (by decide) (by decide),
    onIo (by decide) (by decide), memWrite_lyc s v, fun a ha => ?_⟩
  · rw [memWrite_p1, rawRead_rawWrite_same]
  · rw [memWrite_p1, rawRead_rawWrite_same]
    exact p1Value_getLsbD v s.buttons hn
  · exact (onIo (by decide) (by decide)).trans (writeTac_eq v s)
  · simp only [List.mem_cons, List.not_mem_nil, or_false] at ha
    rcases ha with rfl | rfl | rfl | rfl | rfl | rfl | rfl | rfl | rfl | rfl | rfl | rfl <;>
      exact onIo (by decide) (by decide)

/-! ## LCDC (R115, R376, R377) -/

theorem memWrite_lcdc (s : Board) (v : Byte) : memWrite s Io.lcdc v = writeLcdc v s := by
  rw [memWrite_io (by decide) (by decide)]; rfl

theorem writeLcdc_down {s : Board} {v : Byte} (hold : (rawRead s Io.lcdc).getLsbD 7 = true) (hnew : v.getLsbD 7 = false) :
    writeLcdc v s = ppuDisable (rawWrite s Io.lcdc v) := by
  unfold writeLcdc; dsimp only; rw [hold, hnew]; rfl

theorem writeLcdc_up {s : Board} {v : Byte} (hold : (rawRead s Io.lcdc).getLsbD 7 = false) (hnew : v.getLsbD 7 = true) :
    writeLcdc v s = ppuEnable (rawWrite s Io.lcdc v) := by
  unfold writeLcdc; dsimp only; rw [hold, hnew]; rfl

/-- A write that does not move bit 7 switches nothing. -/
theorem writeLcdc_same {s : Board} {v : Byte} (h : (rawRead s Io.lcdc).getLsbD 7 = v.getLsbD 7) :
    writeLcdc v s = rawWrite s Io.lcdc v := by
  unfold writeLcdc; dsimp only; rw [h]; cases v.getLsbD 7 <;> rfl

/-- Whichever switch a write of LCDC makes, the byte is stored. -/
theorem writeLcdc_lcdc (v : Byte) (s : Board) : rawRead (writeLcdc v s) Io.lcdc = v := by
  have stored : rawRead (rawWrite s Io.lcdc v) Io.lcdc = v := rawRead_rawWrite_same s Io.lcdc v
  unfold writeLcdc
  dsimp only
  split_ifs
  · exact ((touches_ppuDisable _).bytes Io.lcdc (by simp)).trans stored
  · exact ((touches_ppuEnable _).bytes Io.lcdc (by simp)).trans stored
  · exact stored

theorem ppuDisable_ly (s : Board) : rawRead (ppuDisable s) Io.ly = 0 :=
  (rawRead_rawWrite_other _ _ (by decide)).trans (rawRead_rawWrite_same s Io.ly 0)

theorem ppuDisable_stat (s : Board) : rawRead (ppuDisable s) Io.stat = rawRead s Io.stat &&& 0xFC := by
  have kept : rawRead (rawWrite s Io.ly 0) Io.stat = rawRead s Io.stat := rawRead_rawWrite_other s 0 (by decide)
  rw [← kept]
  exact rawRead_rawWrite_same _ _ _

/-- The PPU restarted at line 0, mode 2, before the lines are compared (R377). -/
def ppuRestart (s : Board) : Board :=
  writeStatMode .oamSearch
    { rawWrite s Io.ly 0 with ppu := { s.ppu with acc := 0, winLine := 0, mode := .oamSearch } }

theorem ppuEnable_eq (s : Board) : ppuEnable s = lycCompare (ppuRestart s) := rfl

theorem ppuRestart_ly (s : Board) : rawRead (ppuRestart s) Io.ly = 0 :=
  (rawRead_rawWrite_other _ _ (by decide)).trans (rawRead_rawWrite_same s Io.ly 0)

theorem ppuRestart_stat (s : Board) : rawRead (ppuRestart s) Io.stat = (rawRead s Io.stat &&& 0xFC) ||| 0x02 := by
  have kept : rawRead (rawWrite s Io.ly 0) Io.stat = rawRead s Io.stat := rawRead_rawWrite_other s 0 (by decide)
  rw [← kept]
  exact rawRead_rawWrite_same _ _ _

theorem ppuRestart_other (s : Board) {a : Word} (hly : a ≠ Io.ly) (hstat : a ≠ Io.stat) :
    rawRead (ppuRestart s) a = rawRead s a :=
  (rawRead_rawWrite_other _ _ hstat).trans (rawRead_rawWrite_other s 0 hly)

/-- Comparing after the restart sets or clears STAT[2] beside mode 2. -/
theorem restarted_stat_compare (c : Prop) [Decidable c] (x : Byte) :
    (if c then (x &&& 0xFC ||| 0x02) ||| 0x04 else (x &&& 0xFC ||| 0x02) &&& 0xFB) =
      (x &&& 0xF8) ||| if c then 0x06 else 0x02 := by
  split
  · ext i hi; interval_cases i <;> simp
  · ext i hi; interval_cases i <;> simp

theorem ppuEnable_stat (s : Board) :
    rawRead (ppuEnable s) Io.stat =
      (rawRead s Io.stat &&& 0xF8) ||| if rawRead s Io.lyc = 0 then 0x06 else 0x02 := by
  rw [ppuEnable_eq, lycCompare_stat, ppuRestart_ly, ppuRestart_stat, ppuRestart_other s (by decide) (by decide),
    restarted_stat_compare]
  simp only [eq_comm (a := (0 : Byte))]

/-- The restart makes no request of its own; the compare may (R377). -/
theorem ppuEnable_if (s : Board) :
    rawRead (ppuEnable s) Io.if_ =
      if rawRead s Io.lyc = 0 ∧ (rawRead s Io.stat).getLsbD 6 = true then rawRead s Io.if_ ||| 0x02
      else rawRead s Io.if_ := by
  have bit6 : (rawRead s Io.stat &&& 0xFC ||| 0x02).getLsbD 6 = (rawRead s Io.stat).getLsbD 6 := by simp
  rw [ppuEnable_eq, lycCompare_if, ppuRestart_ly, ppuRestart_stat, ppuRestart_other s (by decide) (by decide),
    ppuRestart_other s (by decide) (by decide), bit6]
  simp only [eq_comm (a := (0 : Byte))]

theorem ppuEnable_ly (s : Board) : rawRead (ppuEnable s) Io.ly = 0 := by
  rw [ppuEnable_eq, lycCompare_ly, ppuRestart_ly]

/-- Settles O42: the three cases of a write of LCDC are switching off, switching on and neither; LYC is stored and, with
the LCD on, compared. -/
theorem lcdSwitchAndLineCompare : Obligations.LcdSwitchAndLineCompare := by
  intro s v t off on
  have ht : t = writeLcdc v s := memWrite_lcdc s v
  have keptByLcdc {a : Word} (h : a ≠ Io.lcdc) : rawRead (rawWrite s Io.lcdc v) a = rawRead s a := rawRead_rawWrite_other s v h
  have keptByLyc {a : Word} (h : a ≠ Io.lyc) : rawRead (rawWrite s Io.lyc v) a = rawRead s a := rawRead_rawWrite_other s v h
  have hlyc : rawRead (rawWrite s Io.lyc v) Io.lyc = v := rawRead_rawWrite_same s Io.lyc v
  rw [ht]
  refine ⟨writeLcdc_lcdc v s, fun hoff hon => writeLcdc_same ?_, fun ⟨hold, hnew⟩ => ?_, fun ⟨hold, hnew⟩ => ?_, ?_,
    fun hlcd => ?_, fun hlcd => ?_⟩
  · cases hold : (rawRead s Io.lcdc).getLsbD 7 <;> cases hnew : v.getLsbD 7
    case false.true => exact absurd ⟨hold, hnew⟩ hon
    case true.false => exact absurd ⟨hold, hnew⟩ hoff
    all_goals rfl
  · rw [writeLcdc_down hold hnew]
    refine ⟨ppuDisable_ly _, ?_, ?_, rfl⟩
    · rw [ppuDisable_stat, keptByLcdc (by decide)]
    · rw [(touches_ppuDisable _).bytes Io.if_ (by simp), keptByLcdc (by decide)]
  · rw [writeLcdc_up hold hnew]
    refine ⟨ppuEnable_ly _, ?_, ?_, ?_⟩
    · rw [ppuEnable_eq, lycCompare_ppu]; rfl
    · rw [ppuEnable_stat, keptByLcdc (by decide), keptByLcdc (by decide)]
    · rw [ppuEnable_if, keptByLcdc (by decide), keptByLcdc (by decide), keptByLcdc (by decide)]
  · rw [memWrite_lyc]
    split
    · rw [lycCompare_lyc, hlyc]
    · exact hlyc
  · rw [memWrite_lyc, if_pos hlcd]
    refine ⟨?_, ?_⟩
    · rw [lycCompare_stat_bit2, keptByLyc (by decide), hlyc]
    · rw [lycCompare_if, hlyc, keptByLyc (by decide), keptByLyc (by decide), keptByLyc (by decide)]
  · rw [memWrite_lyc, if_neg (by rw [hlcd]; decide)]

end Sys2Proof.Machine
end

section
/-! The memory family (spec/20_memory.md), the OAM copy (R118): the pages it reads lie below everything it writes, so each
byte is the one that stood there before. -/

namespace Sys2Proof.Machine

/-- Where the copy of page `v` takes byte `i` from. -/
theorem dmaSource_eq (v : Byte) {i : Nat} (hi : i < 160) :
    wordOf v (BitVec.ofNat 8 i) = BitVec.ofNat 16 (256 * v.toNat + i) := by
  have hv := v.isLt
  apply BitVec.eq_of_toNat_eq
  rw [wordOf, BitVec.toNat_append, ← Nat.shiftLeft_add_eq_or_of_lt (BitVec.ofNat 8 i).isLt, Nat.shiftLeft_eq]
  simp only [BitVec.toNat_ofNat]
  omega

/-- The copied byte `i` goes to this address. -/
theorem dmaTarget_eq (i : Nat) : (0xFE00 : Word) + BitVec.ofNat 16 i = BitVec.ofNat 16 (0xFE00 + i) :=
  (BitVec.ofNat_add _ _).symm

/-- Below 0xE000 a read sees neither OAM nor the I/O page nor a draw (R63, R70). -/
theorem memRead_below_echo {s t : Board} {a : Word} (ha : a < 0xE000) (ht : t = { s with mem := t.mem, draws := t.draws })
    (hr : rawRead t a = rawRead s a) : memRead t a = memRead s a := by
  have hb := regionOf_bounds s.bootVisible a
  refine memRead_congr (by rw [ht]) (by rw [ht]) (by rw [ht]) (fun e => ?_) (fun _ => hr) (fun e => ?_)
  all_goals
    rw [show regionOf s.bootVisible a = _ from e] at hb
    dsimp only at hb
    bv_omega

/-- The address of a page below 0xE0 is below 0xE000. -/
theorem dmaSource_lt {v : Byte} (hv : v < 0xE0) {i : Nat} (hi : i < 160) : wordOf v (BitVec.ofNat 8 i) < 0xE000 := by
  rw [dmaSource_eq v hi]
  bv_omega

/-- The first `n` bytes of the copy are those of the page as it was (R118). -/
theorem dmaFold_bytes {v : Byte} (hv : v < 0xE0) (s : Board) {n : Nat} (hn : n ≤ 160) :
    ∀ i < n, rawRead ((List.range n).foldl (dmaCopyByte v) s) (BitVec.ofNat 16 (0xFE00 + i)) =
      memRead s (wordOf v (BitVec.ofNat 8 i)) := by
  induction n with
  | zero => intro i hi; omega
  | succ n ih =>
    obtain ⟨frame, _, _, outside⟩ :=
      dmaFold v (List.range n) (fun i hi => Nat.lt_of_lt_of_le (List.mem_range.mp hi) (by omega)) s
    intro i hi
    rw [List.range_succ, List.foldl_append, List.foldl_cons, List.foldl_nil, dmaCopyByte, if_pos hv, dmaByte, if_pos hv,
      dmaTarget_eq]
    by_cases h : i = n
    · subst h
      have hsrc := dmaSource_lt hv (i := i) (by omega)
      rw [rawRead_rawWrite_same]
      exact memRead_below_echo hsrc frame (outside _ (by bv_omega))
    · have hne : BitVec.ofNat 16 (0xFE00 + i) ≠ BitVec.ofNat 16 (0xFE00 + n) := by bv_omega
      rw [rawRead_rawWrite_other _ _ hne]
      exact ih (by omega) i (by omega)

/-- The copy leaves the page's number in DMA. -/
theorem writeDma_dma (v : Byte) (s : Board) : rawRead (writeDma v s) Io.dma = v :=
  ((sameIo_writeDma v s).bytes Io.dma (by decide) (by decide)).trans (rawRead_rawWrite_same s Io.dma v)

/-- Byte `i` of OAM after the copy is byte `i` of the page before it. -/
theorem writeDma_oam {v : Byte} (hv : v < 0xE0) (s : Board) {i : Nat} (hi : i < 160) :
    rawRead (writeDma v s) (BitVec.ofNat 16 (0xFE00 + i)) = memRead s (BitVec.ofNat 16 (256 * v.toNat + i)) := by
  have hsrc := dmaSource_lt hv hi
  have before : memRead (rawWrite s Io.dma v) (wordOf v (BitVec.ofNat 8 i)) = memRead s (wordOf v (BitVec.ofNat 8 i)) :=
    memRead_below_echo hsrc rfl (rawRead_rawWrite_other s v (by bv_omega))
  rw [← dmaSource_eq v hi, ← before]
  exact dmaFold_bytes hv _ le_rfl i hi

/-- Settles O43: the frame of the copy, and for a page that is read the byte each step of it takes. -/
theorem dmaCopiesAPageIntoOam : Obligations.DmaCopiesAPageIntoOam := by
  intro s v t
  have ht : t = writeDma v s := memWrite_io (s := s) (a := Io.dma) (by decide) (by decide) v
  obtain ⟨frame, _, draws, outside⟩ := writeDma_frame v s
  rw [ht]
  exact ⟨frame, writeDma_dma v s, outside, fun hv => ⟨draws hv, fun i hi => writeDma_oam hv s hi⟩⟩

end Sys2Proof.Machine
end

section
/-! The encoding family (spec/30_encoding.md), decoder and encoder: the grids of R162 and R164 against the bit patterns of
R151 to R155, in both directions. -/

namespace Sys2Proof.Machine

/-! ## From an instruction to its bytes and back -/

/-- Settles O1: row by row the length and the cell of the encoding's first byte are looked up, which gives the row back
with its operand byte; an operand word comes back as its two bytes put together (R140, R150). -/
theorem decodeOfEncodeIsTheInstruction : Obligations.DecodeOfEncodeIsTheInstruction := by
  intro i rest hwf
  cases i
  case prefixCb => cases hwf
  case ldBcN16 w | ldDeN16 w | ldHlN16 w | ldSpN16 w | ldMa16Sp w | ldMa16A w | ldAMa16 w | jpA16 w | jpNzA16 w
    | jpZA16 w | jpNcA16 w | jpCA16 w | callA16 w | callNzA16 w | callZA16 w | callNcA16 w | callCA16 w =>
    conv_rhs => rw [← wordOf_hi_lo w]
    rfl
  all_goals rfl

/-! ## A grid read cell by cell -/

/-- The grid whose cell is its own byte: row, then column. -/
def byteGrid : Vector (Vector Byte 16) 16 :=
  Vector.ofFn fun row => Vector.ofFn fun col => BitVec.ofNat 4 row ++ BitVec.ofNat 4 col

theorem gridCell_byteGrid (op : Byte) : gridCell byteGrid op = op := by
  simp only [gridCell, byteGrid, Vector.getElem_ofFn, BitVec.ofNat_toNat, BitVec.setWidth_eq]
  exact (BitVec.extractLsb'_append_extractLsb'_eq_extractLsb' rfl).trans (by simp)

/-- A function of a grid's cells that agrees, as a table, with a function of the byte, agrees at every byte. -/
theorem gridCell_of_gridMap {α β : Type} (g : Vector (Vector α 16) 16) (f : α → β) (v : Byte → β)
    (h : gridMap f g = gridMap v byteGrid) (op : Byte) : f (gridCell g op) = v op := by
  have hcell := gridMap_cell g f op
  rw [h, gridMap_cell, gridCell_byteGrid] at hcell
  exact (Option.some.inj hcell).symm

/-! ## From bytes to the instruction and back -/

/-- The bytes of the instruction with first byte `op`: it and as many of the two bytes after it as its length asks for,
two of them being the word `hi ++ lo` (R140, R142, R158). -/
def instrBytes (op lo hi : Byte) : List Byte :=
  if lengthOf op = 1 then [op] else if lengthOf op = 2 then [op, lo] else op :: operand16 (wordOf hi lo)

theorem mainGrid_encode (op lo hi : Byte) : encode (gridCell mainGrid op lo hi) = instrBytes op lo hi :=
  gridCell_of_gridMap mainGrid (fun cell => encode (cell lo hi)) (instrBytes · lo hi) rfl op

/-- The cell of 0xCB alone is no instruction; every other row of the first bytes is one (R161, R315). -/
theorem mainGrid_wellFormed (op lo hi : Byte) : (gridCell mainGrid op lo hi).wellFormed = (op != 0xCB) :=
  gridCell_of_gridMap mainGrid (fun cell => (cell lo hi).wellFormed) (· != 0xCB) rfl op

theorem encode_decodeCb (opcode2 : Byte) : encode (decodeCb opcode2) = [0xCB, opcode2] :=
  gridCell_of_gridMap cbGrid encode (fun b => [0xCB, b]) rfl opcode2

theorem wellFormed_decodeCb (opcode2 : Byte) : (decodeCb opcode2).WellFormed :=
  gridCell_of_gridMap cbGrid Instr.wellFormed (fun _ => true) rfl opcode2

theorem encode_decodeBytes (op lo hi : Byte) : encode (decodeBytes op lo hi) = instrBytes op lo hi := by
  unfold decodeBytes
  split
  · rename_i hcb; subst hcb; exact encode_decodeCb lo
  · exact mainGrid_encode op lo hi

theorem wellFormed_decodeBytes (op lo hi : Byte) : (decodeBytes op lo hi).WellFormed := by
  unfold decodeBytes
  split
  · exact wellFormed_decodeCb lo
  · rename_i hcb; exact (mainGrid_wellFormed op lo hi).trans (bne_iff_ne.mpr hcb)

/-- What the decoder accepts: the bytes of one instruction and whatever follows them (R142). -/
theorem decode_eq_ok {bytes rest : List Byte} {i : Instr} (h : decode bytes = .ok (i, rest)) :
    ∃ op lo hi, i = decodeBytes op lo hi ∧ bytes = instrBytes op lo hi ++ rest := by
  unfold decode at h
  unfold instrBytes
  split at h
  · cases h
  · rename_i op after
    split_ifs at h with h1 h2
    · cases h; exact ⟨op, 0, 0, rfl, by simp [h1]⟩
    · split at h
      · rename_i lo after; cases h; exact ⟨op, lo, 0, rfl, by simp [h2]⟩
      · cases h
    · split at h
      · rename_i lo hi after; cases h; exact ⟨op, lo, hi, rfl, by simp [h1, h2, operand16]⟩
      · cases h

/-- Settles O2: the decoder looks one cell up and drops the bytes of its instruction, and every cell of the two grids is
well formed and encodes to those bytes. -/
theorem encodeOfDecodeIsTheBytes : Obligations.EncodeOfDecodeIsTheBytes := by
  intro bytes i rest h
  obtain ⟨op, lo, hi, rfl, rfl⟩ := decode_eq_ok h
  exact ⟨wellFormed_decodeBytes op lo hi, by rw [encode_decodeBytes]⟩

/-- Settles O3: each word is looked up in its grid. -/
theorem decoderReadsTheWordsOfTheSpec : Obligations.DecoderReadsTheWordsOfTheSpec :=
  ⟨rfl, rfl, rfl, rfl, rfl, rfl, rfl, rfl, rfl⟩

end Sys2Proof.Machine
end

section
/-! The encoding family (spec/30_encoding.md), what a fetch does to the instruction it reads: 0xCB hands over to a row of
the extended table (R155, R315), and the HALT bug makes a byte be read twice (R311). -/

namespace Sys2Proof.Machine

/-! ## The byte 0xCB (R155, R315) -/

/-- The row of the grid of R164 runs as the fields of its byte say (R155). -/
theorem exec_decodeCb (opcode2 : Byte) (s : State) : exec (decodeCb opcode2) s = runCb opcode2 s :=
  congrFun (gridCell_of_gridMap cbGrid exec runCb rfl opcode2) s

/-- Every prefixed instruction completes, two bytes on, and consumes the HALT bug. -/
theorem runCb_next (opcode2 : Byte) (s : State) :
    ∃ t, runCb opcode2 s = .next t ∧ t.regs.pc = s.nextPc 2 ∧ t.ctl.haltBug = false := by
  obtain ⟨f, hf, hk⟩ := runCb_eq opcode2
  rw [hf s]
  rcases hk with ⟨op, r, rfl⟩ | ⟨op, rfl⟩ | ⟨b, r, rfl⟩ | ⟨b, rfl⟩ | ⟨b, r, rfl⟩ | ⟨b, rfl⟩ | ⟨b, r, rfl⟩ | ⟨b, rfl⟩ <;>
    exact ⟨_, rfl, by simp [State.shiftFlags, State.bitFlags]⟩

/-- Settles O11: the row of 0xCB runs its second byte by the fields, which is what the decoded row of that byte does. -/
theorem prefixRunsTheSelectedInstruction : Obligations.PrefixRunsTheSelectedInstruction := by
  intro opcode2 s
  obtain ⟨t, ht, hpc, _⟩ := runCb_next opcode2 s
  exact ⟨rfl, decodeCb opcode2, rfl, (exec_decodeCb opcode2 s).symm, t, ht, hpc.trans (nextPc_eq_pcn s Nat.two_pos)⟩

/-! ## The HALT bug (R311) -/

/-- Every form but HALT and the illegal ones completes and consumes the HALT bug. -/
theorem runForm_consumes_haltBug {f : Form} (hhalt : f ≠ .halt) (hill : ∀ op, f ≠ .illegal op) (s : State) :
    ∃ t, runForm f s = .next t ∧ t.ctl.haltBug = false := by
  cases f
  case halt => exact absurd rfl hhalt
  case illegal op => exact absurd rfl (hill op)
  case prefixCb op =>
    obtain ⟨t, ht, _, hbug⟩ := runCb_next op s
    exact ⟨t, ht, hbug⟩
  case jpCc | jrCc | retCc | callCc =>
    simp only [runForm, jpCc, jrCc, retCc, callCc]
    split
    · exact ⟨_, rfl, by simp [State.jumpBy, State.returnTo, State.callTo, afterPop_eq, push16_eq]⟩
    · exact ⟨_, rfl, rfl⟩
  all_goals
    refine ⟨_, rfl, ?_⟩
    simp [loadReg, State.incFlags, State.decFlags, State.shiftFlags, State.bitFlags, State.jumpBy, State.callTo,
      State.returnTo, push16_eq, afterPop_eq, returnFromInterrupt_eq]

@[simp] theorem enableAfter_haltBug (e : Bool) (i : Instr) (s : State) :
    (enableAfter e i s).ctl.haltBug = s.ctl.haltBug := by cases e <;> rfl

/-- Settles O5: with `halt_bug` set the operand address is PC itself, so the fetch decodes the byte at PC twice, and the
instruction's end clears the bit. -/
theorem haltBugReadsTheByteTwice : Obligations.HaltBugReadsTheByteTwice := by
  refine ⟨fun s i rest hhalted hbug hirq hpc hpc1 hd hhalt hill => ?_, rfl⟩
  have ha : operandAddress s = s.regs.pc := if_pos hbug
  have hfetch : fetch s = (i, s) := fetch_eq_of_decode hpc (ha ▸ hpc) (ha ▸ hpc1) (by rw [ha]; exact hd)
  obtain ⟨u, hform, hclear⟩ := runForm_consumes_haltBug hhalt hill s
  have hu : exec i s = .next u := (exec_form i s).trans hform
  refine ⟨enableAfter s.ctl.imeSched i u, ?_, u, hu, rfl, (enableAfter_haltBug ..).trans hclear⟩
  rw [cpuStep_eq_runInstruction hhalted hirq, runInstruction, hfetch, hu]

end Sys2Proof.Machine
end

section
/-! The 8-bit loads (spec/40_load8.md R171 to R190): what an instruction that loads one register leaves, and what one read
does outside the CPU. -/

namespace Sys2Proof.Machine

/-! ## Past the instruction, and the registers -/

@[simp] theorem State.advance_reg (s : State) (n k : Nat) (r : Reg8) : (s.advance n k).reg r = s.reg r := by
  cases r <;> rfl

theorem State.setReg_reg (s : State) (r q : Reg8) (v : Byte) : (s.setReg r v).reg q = if q = r then v else s.reg q :=
  Regs.get_set s.regs r q v

@[simp] theorem State.setHl_hl (s : State) (v : Word) : (s.setHl v).hl = v := wordOf_hi_lo v

theorem endsAt_advance (s : State) {n : Nat} (k : Nat) (hn : 0 < n) : EndsAt s (s.advance n k) (pcn s n) k :=
  ⟨nextPc_eq_pcn s hn, rfl, rfl⟩

theorem EndsAt.setReg {s t : State} {pc : Word} {k : Nat} (h : EndsAt s t pc k) (r : Reg8) (v : Byte) :
    EndsAt s (t.setReg r v) pc k := by
  obtain ⟨hpc, hclock, hctl⟩ := h
  exact ⟨(Regs.set_pc t.regs r v).trans hpc, hclock, hctl⟩

theorem regsKept_advance (s : State) (n k : Nat) : RegsKept s (s.advance n k) [] := fun r _ => s.advance_reg n k r

theorem RegsKept.mono {s t : State} {l m : List Reg8} (h : RegsKept s t l) (hlm : l ⊆ m) : RegsKept s t m :=
  fun r hr => h r (fun hl => hr (hlm hl))

theorem RegsKept.setReg {s t : State} {l : List Reg8} (h : RegsKept s t l) (r : Reg8) (v : Byte) :
    RegsKept s (t.setReg r v) (r :: l) := by
  intro q hq
  obtain ⟨hr, hl⟩ := not_or.mp (mt List.mem_cons.mpr hq)
  rw [State.setReg_reg, if_neg hr, h q hl]

theorem RegsKept.setHl {s t : State} {l : List Reg8} (h : RegsKept s t l) (v : Word) :
    RegsKept s (t.setHl v) (.h :: .l :: l) := by
  intro q hq
  rw [← h q (by simp_all)]
  cases q
  case h | l => simp at hq
  all_goals rfl

/-- A register load past the instruction: the destination alone is written, and no flag changes (R170). -/
theorem setReg_advance_spec (s : State) (dst : Reg8) (v : Byte) {n : Nat} (k : Nat) (hn : 0 < n) :
    let t := (s.advance n k).setReg dst v
    t.reg dst = v ∧ RegsKept s t [dst] ∧ t.regs.f = s.regs.f ∧ t.regs.sp = s.regs.sp ∧ EndsAt s t (pcn s n) k :=
  ⟨Regs.get_set_same _ _ _, (regsKept_advance s n k).setReg dst v, Regs.set_f _ _ _, Regs.set_sp _ _ _,
    (endsAt_advance s k hn).setReg dst v⟩

/-- Settles O12: the value is taken before the write, so the destination may be the source. -/
theorem registerLoads : Obligations.RegisterLoads := by
  intro i s dst
  refine ⟨fun src hi => ⟨encode_of_form hi, ?_⟩, fun n8 hi => ⟨encode_of_form hi, ?_⟩⟩
  · obtain ⟨hdst, hregs, hf, hsp, hend⟩ := setReg_advance_spec s dst ((s.advance 1 4).reg src) 4 Nat.one_pos
    exact ⟨_, exec_of_form hi s, hdst.trans (s.advance_reg 1 4 src), hregs, hf, hsp, hend, outsideKept_of_board_eq rfl rfl⟩
  · obtain ⟨hdst, hregs, hf, hsp, hend⟩ := setReg_advance_spec s dst n8 8 Nat.two_pos
    exact ⟨_, exec_of_form hi s, hdst, hregs, hf, hsp, hend, outsideKept_of_board_eq rfl rfl⟩

/-! ## One read (R69, R70) -/

/-- A read takes a draw exactly in the crash region. -/
theorem afterMemRead_eq_drawsOf (s : State) (a : Word) :
    afterMemRead s.board a = { s.board with draws := s.board.draws + drawsOf s [a] } := by
  unfold afterMemRead drawsOf State.region
  cases hr : s.board.region a <;> simp [hr]

/-- An instruction that reads `a` once and stores nothing keeps everything outside the CPU, but for the draw. -/
theorem outsideKept_of_read {s t : State} {a : Word} (hb : t.board = afterMemRead s.board a)
    (hm : t.hostMoves = s.hostMoves) : OutsideKept s t [a] := by
  refine ⟨hb.trans (afterMemRead_eq_drawsOf s a), hm, fun b hcrash => ?_⟩
  rw [busRead, hb, afterMemRead_eq_drawsOf]
  exact memRead_congr rfl rfl rfl (fun h => absurd h hcrash) (fun _ => rfl) (fun _ => rfl)

/-! ## Loads from memory (R173, R176, R177, R180, R188, R190) -/

theorem highPage_eq (offset : Byte) : highPage offset = 0xFF00 + offset.setWidth 16 := by
  apply BitVec.eq_of_toNat_eq
  have hlt := offset.isLt
  rw [highPage, wordOf, BitVec.toNat_append, ← Nat.shiftLeft_add_eq_or_of_lt hlt, Nat.shiftLeft_eq]
  simp only [BitVec.toNat_add, BitVec.toNat_setWidth, BitVec.reduceToNat]
  omega

/-- An advance and one `loadReg` is a load in the sense of Safety.lean. -/
theorem loadsByte_of_exec {i : Instr} {s : State} {dst : Reg8} {addr : Word} {n k : Nat} (hn : 0 < n)
    (h : exec i s = .next (loadReg dst addr (s.advance n k))) : LoadsByte i s dst addr n k := by
  obtain ⟨hdst, hregs, hf, hsp, hend⟩ := setReg_advance_spec s dst (busRead s addr) k hn
  exact ⟨_, h, hdst, hregs, hf, hsp, hend, outsideKept_of_read rfl rfl⟩

/-- Settles O13: every form is one `loadReg` past its bytes, at an address of the state before. -/
theorem loadsFromMemory : Obligations.LoadsFromMemory := by
  intro i s
  simp only [← highPage_eq]
  exact ⟨fun dst hi => ⟨encode_of_form hi, loadsByte_of_exec (by decide) (exec_of_form hi s)⟩,
    fun hi => ⟨encode_of_form hi, loadsByte_of_exec (by decide) (exec_of_form hi s)⟩,
    fun hi => ⟨encode_of_form hi, loadsByte_of_exec (by decide) (exec_of_form hi s)⟩,
    fun a16 hi => ⟨encode_of_form hi, loadsByte_of_exec (by decide) (exec_of_form hi s)⟩,
    fun a8 hi => ⟨encode_of_form hi, loadsByte_of_exec (by decide) (exec_of_form hi s)⟩,
    fun hi => ⟨encode_of_form hi, loadsByte_of_exec (by decide) (exec_of_form hi s)⟩⟩

end Sys2Proof.Machine
end

section
/-! The 8-bit stores (spec/40_load8.md R174 to R189): which bytes read differently after one checked write, and the four
forms that move HL past their access. -/

namespace Sys2Proof.Machine

/-! ## What else reads differently after a checked write (R67, R68, R80, R98 to R102, R110 to R118) -/

theorem echo_bounds {s : Board} {a : Word} (h : s.region a = .echo) : 0xE000 ≤ a ∧ a ≤ 0xFDFF := by
  have hb := regionOf_bounds s.bootVisible a
  rwa [show regionOf s.bootVisible a = .echo from h] at hb

/-- After a change in OAM, the I/O page or above, a byte that is not touched reads as before: the echo is of work RAM. -/
theorem Touches.memRead_of_high {l : List Word} {tim vid snd : Bool} {s t : Board} (h : Touches l tim vid snd s t)
    (hl : ∀ c ∈ l, 0xFE00 ≤ c) {b : Word} (hb : b ∉ l) : Machine.memRead t b = Machine.memRead s b := by
  refine h.memRead (fun _ => hb) (fun hecho hm => ?_)
  have hbounds := echo_bounds hecho
  have hhigh := hl _ hm
  bv_omega

/-- A raw write is seen at its address, and at the echo of its address (R68). -/
theorem memRead_rawWrite_other {s : Board} {b c : Word} (v : Byte) (hne : b ≠ c)
    (hecho : s.region b = .echo → b - 0x2000 ≠ c) : memRead (rawWrite s c v) b = memRead s b :=
  memRead_congr rfl rfl rfl (fun _ => rfl) (fun _ => rawRead_rawWrite_other s v hne)
    (fun h => rawRead_rawWrite_other s v (hecho h))

theorem memRead_rawWrite_high (s : Board) {a b : Word} (v : Byte) (ha : 0xFE00 ≤ a) (hne : b ≠ a) :
    memRead (rawWrite s a v) b = memRead s b :=
  memRead_rawWrite_other v hne (fun h => by have hb := echo_bounds h; bv_omega)

/-- A command of the bank controller moves the two banked windows only. -/
theorem memRead_bankWrite_other (s : Board) (a : Word) {b : Word} (v : Byte)
    (hb : ¬ (0x4000 ≤ b ∧ b ≤ 0x7FFF ∨ 0xA000 ≤ b ∧ b ≤ 0xBFFF)) :
    memRead { s with cart := s.cart.bankWrite a v } b = memRead s b := by
  obtain ⟨hframe, _⟩ := bankWrite_frame s.cart a v
  have hbounds := regionOf_bounds s.bootVisible b
  rw [hframe]
  unfold memRead Board.region
  cases hr : regionOf s.bootVisible b <;> rw [hr] at hbounds <;> dsimp only at hbounds ⊢
  case rom =>
    have low (c : Cartridge) : c.romOffset b = b.toNat := if_pos (by bv_omega)
    rw [low, low]
    rfl
  case extRam => exact absurd (.inr hbounds) hb
  all_goals rfl

/-- Two addresses of external RAM are two offsets of the selected bank. -/
theorem memRead_extRamWrite_other {s : Board} {a b : Word} (v : Byte) (ha : s.region a = .extRam) (hne : b ≠ a) :
    memRead (extRamWrite s a v) b = memRead s b := by
  have habounds := regionOf_bounds s.bootVisible a
  rw [show regionOf s.bootVisible a = .extRam from ha] at habounds
  have hbounds := regionOf_bounds s.bootVisible b
  unfold extRamWrite
  split
  · unfold memRead Board.region
    cases hr : regionOf s.bootVisible b <;> rw [hr] at hbounds <;> dsimp only at habounds hbounds ⊢
    case extRam =>
      have hoffset : s.cart.ramOffset b ≠ s.cart.ramOffset a := by unfold Cartridge.ramOffset; bv_omega
      have hbyte := ramByte_put s.cart (s.cart.ramOffset a) (s.cart.ramOffset b) v
      rw [if_neg hoffset] at hbyte
      exact if_congr Iff.rfl hbyte rfl
    all_goals rfl
  · rfl

/-- Past the boot region it does not matter whether the boot ROM is visible (R64). -/
theorem memRead_hideBoot (s : Board) {b : Word} (hb : ¬ b ≤ 0x00FF) :
    memRead { s with bootVisible := false } b = memRead s b := by
  have hregion : Board.region { s with bootVisible := false } b = s.region b :=
    (region_of_not_boot (fun h => hb h.2)).symm
  unfold memRead
  rw [hregion]
  rfl

theorem memRead_writeBoot_other (s : Board) {b : Word} (v : Byte) (hne : b ≠ Io.boot) (hb : ¬ b ≤ 0x00FF) :
    memRead (writeBoot v s) b = memRead s b :=
  (memRead_hideBoot _ hb).trans (memRead_rawWrite_high s v (by decide) hne)

/-- The OAM copy is seen at DMA and in OAM alone (R118). -/
theorem memRead_writeDma_other {s : Board} {b : Word} (v : Byte) (hne : b ≠ Io.dma) (hoam : ¬ (0xFE00 ≤ b ∧ b ≤ 0xFE9F))
    (hcrash : s.region b ≠ .crash) : memRead (writeDma v s) b = memRead s b := by
  obtain ⟨hframe, _, _, hbytes⟩ := writeDma_frame v s
  refine memRead_congr (by rw [hframe]) (by rw [hframe]) (by rw [hframe]) (fun h => absurd h hcrash)
    (fun _ => hbytes b hne hoam) (fun hecho => ?_)
  have hbounds := echo_bounds hecho
  exact hbytes _ (by bv_omega) (by bv_omega)

/-- A write to the APU is seen at its address; at NR52 when that is a register; at the registers when that is NR52. -/
theorem memRead_apuWrite_other {s : Board} {a b : Word} (v : Byte) (ha : soundAddress a = true) (hne : b ≠ a)
    (hregs : a = Io.nr52 → b ∉ soundRegisters) (h52 : a ∈ soundRegisters → b ≠ Io.nr52) :
    memRead (apuWrite a v s) b = memRead s b := by
  have high (c : Word) (hc : c ∈ soundRegisters) : 0xFE00 ≤ c := by
    rw [mem_soundRegisters] at hc
    bv_omega
  rcases (soundAddress_iff a).mp ha with hreg | rfl | hwave
  · have ha52 : a ≠ Io.nr52 := by rintro rfl; exact absurd hreg (by decide)
    have htouches := touches_apuWrite a v s
    rw [if_neg ha52] at htouches
    refine htouches.memRead_of_high ?_ ?_
    · simpa using high a hreg
    · simpa using ⟨hne, h52 hreg⟩
  · refine (touches_writeNr52 v s).memRead_of_high ?_ ?_
    · simpa using high
    · simpa using ⟨hne, hregs rfl⟩
  · rw [apuWrite, if_pos hwave]
    exact memRead_rawWrite_high s v (by bv_omega) hne

/-- What an I/O write changes beside its register is what its owner's rule names (R110). -/
theorem memRead_ioWrite_other {s : State} {a b : Word} (v : Byte) (hio : s.region a = .io) (hne : b ≠ a)
    (hbeside : ¬ besideStore s a b) (hcrash : s.region b ≠ .crash) :
    memRead (ioWrite a v s.board) b = memRead s.board b := by
  have ha := regionOf_bounds s.board.bootVisible a
  rw [show regionOf s.board.bootVisible a = .io from hio] at ha
  simp only [besideStore, hio, not_or, not_and] at hbeside
  obtain ⟨hlcdc, hlyc, hdma, hregs, h52, hboot⟩ := hbeside
  rcases ioWrite_cases a v s.board with ⟨rfl, e⟩ | ⟨rfl, e⟩ | ⟨rfl, e⟩ | ⟨h, e⟩ | ⟨rfl, e⟩ | ⟨rfl, e⟩ | ⟨rfl, e⟩ | ⟨rfl, e⟩ |
    ⟨rfl, e⟩ | ⟨rfl, e⟩ | ⟨_, e⟩ <;> rw [e]
  · exact memRead_rawWrite_high _ _ (by decide) hne
  · exact memRead_writeDiv_other _ hne
  · exact (touches_writeTac v _).memRead_of_high (by simp) (by simpa using hne)
  · exact memRead_apuWrite_other v h hne hregs h52
  · exact (touches_writeLcdc v _).memRead_of_high (by simp) (by simpa using ⟨hne, hlcdc rfl⟩)
  · exact memRead_rawWrite_high _ _ (by decide) hne
  · exact (touches_writeLyc v _).memRead_of_high (by simp) (by simpa using ⟨hne, hlyc rfl⟩)
  · exact memRead_writeDma_other v hne (fun h => hdma rfl h.1 h.2) hcrash
  · exact memRead_writeBoot_other _ v hne (hboot rfl)
  · exact memRead_rawWrite_high _ _ (by bv_omega) hne

/-- A byte that is neither stored to nor beside the store reads as before. -/
theorem memRead_memWrite_other {s : State} {a b : Word} (v : Byte) (hne : b ≠ a) (hbeside : ¬ besideStore s a b)
    (hcrash : s.region b ≠ .crash) : memRead (memWrite s.board a v) b = memRead s.board b := by
  have hother := hbeside
  unfold besideStore State.region at hother
  unfold memWrite
  cases hr : s.board.region a <;> simp only [hr] at hother
  case boot | crash => rfl
  case rom => exact memRead_bankWrite_other _ _ _ hother
  case extRam => exact memRead_extRamWrite_other v hr hne
  case io => exact memRead_ioWrite_other v hr hne hbeside hcrash
  case wram =>
    refine memRead_rawWrite_other v hne (fun h e => hother ?_)
    have hb := echo_bounds h
    bv_omega
  case echo => exact memRead_rawWrite_other v hother (fun _ => by bv_omega)
  case vram | oam | high =>
    have ha := regionOf_bounds s.board.bootVisible a
    rw [show regionOf s.board.bootVisible a = _ from hr] at ha
    refine memRead_rawWrite_other v hne (fun h e => ?_)
    have hb := echo_bounds h
    dsimp only at ha
    bv_omega

/-- Plain memory reads back what is stored (R66, R68, R69, R72). -/
theorem memRead_memWrite_plain {s : State} {a : Word} (v : Byte) (h : s.plain a) :
    memRead (memWrite s.board a v) a = v := by
  by_cases hecho : s.board.region a = .echo
  · obtain ⟨h1, h2⟩ := echo_bounds hecho
    rw [memWrite_echo h1 h2, memRead_echo h1 h2, rawRead_rawWrite_same]
  · have hplain : s.board.region a = .vram ∨ s.board.region a = .wram ∨ s.board.region a = .oam ∨
        s.board.region a = .high := by simpa [State.plain, State.region, hecho] using h
    rw [memWrite_plain hplain]
    exact (memRead_plain (s := rawWrite s.board a v) hplain).trans (rawRead_rawWrite_same s.board a v)

/-- What is one checked write outside the CPU is a store in the sense of Safety.lean. -/
theorem stored_of_memWrite {s t : State} {a : Word} {v : Byte} (hb : t.board = memWrite s.board a v)
    (hm : t.hostMoves = s.hostMoves) : Stored s t a v := by
  refine ⟨hb, hm, fun b hne hbeside hcrash => ?_, fun hplain => ?_⟩
  · rw [busRead, hb]
    exact memRead_memWrite_other v hne hbeside hcrash
  · rw [busRead, hb]
    exact memRead_memWrite_plain v hplain

/-- An advance and one checked write is a store instruction in the sense of Safety.lean. -/
theorem storesByte_of_exec {i : Instr} {s : State} {addr : Word} {v : Byte} {n k : Nat} (hn : 0 < n)
    (h : exec i s = .next (busWrite (s.advance n k) addr v)) : StoresByte i s addr v n k :=
  ⟨_, h, regsKept_advance s n k, rfl, rfl, endsAt_advance s k hn, stored_of_memWrite rfl rfl⟩

/-- Settles O14: every form is one checked write past its bytes, at an address of the state before. -/
theorem storesToMemory : Obligations.StoresToMemory := by
  intro i s
  simp only [← highPage_eq]
  exact ⟨fun src hi => ⟨encode_of_form hi, storesByte_of_exec (by decide) (exec_of_form hi s)⟩,
    fun n8 hi => ⟨encode_of_form hi, storesByte_of_exec (by decide) (exec_of_form hi s)⟩,
    fun hi => ⟨encode_of_form hi, storesByte_of_exec (by decide) (exec_of_form hi s)⟩,
    fun hi => ⟨encode_of_form hi, storesByte_of_exec (by decide) (exec_of_form hi s)⟩,
    fun a16 hi => ⟨encode_of_form hi, storesByte_of_exec (by decide) (exec_of_form hi s)⟩,
    fun a8 hi => ⟨encode_of_form hi, storesByte_of_exec (by decide) (exec_of_form hi s)⟩,
    fun hi => ⟨encode_of_form hi, storesByte_of_exec (by decide) (exec_of_form hi s)⟩⟩

/-! ## The forms that move HL (R182 to R185) -/

theorem runs_storeAndMove {i : Instr} {s : State} {move : Word} (h : exec i s = ldHlStepFromA move s) :
    Runs i s fun t =>
      t.hl = s.hl + move ∧ RegsKept s t [.h, .l] ∧ t.regs.f = s.regs.f ∧ t.regs.sp = s.regs.sp ∧
      EndsAt s t (pcn s 1) 8 ∧ Stored s t s.hl s.regs.a :=
  ⟨_, h, State.setHl_hl _ _, (regsKept_advance s 1 8).setHl _, rfl, rfl, endsAt_advance s 8 Nat.one_pos,
    stored_of_memWrite rfl rfl⟩

theorem runs_loadAndMove {i : Instr} {s : State} {move : Word} (h : exec i s = ldAFromHlStep move s) :
    Runs i s fun t =>
      t.regs.a = busRead s s.hl ∧ t.hl = s.hl + move ∧ RegsKept s t [.a, .h, .l] ∧ t.regs.f = s.regs.f ∧
      t.regs.sp = s.regs.sp ∧ EndsAt s t (pcn s 1) 8 ∧ OutsideKept s t [s.hl] := by
  obtain ⟨ha, hregs, hf, hsp, hend⟩ := setReg_advance_spec s .a (busRead s s.hl) 8 Nat.one_pos
  exact ⟨_, h, ha, State.setHl_hl _ _, (hregs.setHl _).mono (by simp), hf, hsp, hend, outsideKept_of_read rfl rfl⟩

/-- Settles O15: the access is at the old HL, and moving HL afterwards touches H and L alone. -/
theorem steppingLoadsAndStoresMoveHl : Obligations.SteppingLoadsAndStoresMoveHl := by
  intro i s move op
  refine ⟨?_, ?_⟩
  · rintro (⟨hi, rfl, rfl⟩ | ⟨hi, rfl, rfl⟩)
    · exact ⟨encode_of_form hi, runs_storeAndMove (exec_of_form hi s)⟩
    · exact ⟨encode_of_form hi, runs_storeAndMove (exec_of_form hi s)⟩
  · rintro (⟨hi, rfl, rfl⟩ | ⟨hi, rfl, rfl⟩)
    · exact ⟨encode_of_form hi, runs_loadAndMove (exec_of_form hi s)⟩
    · exact ⟨encode_of_form hi, runs_loadAndMove (exec_of_form hi s)⟩

end Sys2Proof.Machine
end

section
/-! The 16-bit loads (spec/41_load16.md R200 to R203, R253): what a write of a pair leaves, two checked writes in a row, and
SP plus a displacement. -/

namespace Sys2Proof.Machine

/-! ## Pairs (R21, R146) -/

@[simp] theorem State.advance_reg16 (s : State) (n k : Nat) (p : Reg16) : (s.advance n k).reg16 p = s.reg16 p := by
  cases p <;> rfl

@[simp] theorem State.setReg16_reg16_same (s : State) (p : Reg16) (v : Word) : (s.setReg16 p v).reg16 p = v := by
  cases p
  case sp => rfl
  all_goals exact wordOf_hi_lo v

theorem State.setReg16_reg16_other (s : State) {p q : Reg16} (v : Word) (h : q ≠ p) :
    (s.setReg16 p v).reg16 q = s.reg16 q := by
  cases p <;> cases q
  case bc.bc | de.de | hl.hl | sp.sp => exact absurd rfl h
  all_goals rfl

@[simp] theorem State.setReg16_a (s : State) (p : Reg16) (v : Word) : (s.setReg16 p v).regs.a = s.regs.a := by
  cases p <;> rfl

@[simp] theorem State.setReg16_pc (s : State) (p : Reg16) (v : Word) : (s.setReg16 p v).regs.pc = s.regs.pc := by
  cases p <;> rfl

/-- `EndsAt` speaks of PC, the clock and the control bits of the state after, and of no other register. -/
theorem EndsAt.congr {s t u : State} {pc : Word} {k : Nat} (h : EndsAt s t pc k) (hpc : u.regs.pc = t.regs.pc)
    (hclock : u.clock = t.clock) (hctl : u.ctl = t.ctl) : EndsAt s u pc k := by
  obtain ⟨hp, hk, hc⟩ := h
  exact ⟨hpc.trans hp, hclock.trans hk, hctl.trans hc⟩

theorem EndsAt.setReg16 {s t : State} {pc : Word} {k : Nat} (h : EndsAt s t pc k) (p : Reg16) (v : Word) :
    EndsAt s (t.setReg16 p v) pc k :=
  h.congr (t.setReg16_pc p v) (t.setReg16_clock p v) (t.setReg16_ctl p v)

/-! ## Past the instruction: SP and the flags -/

@[simp] theorem State.setSp_reg (s : State) (v : Word) (r : Reg8) : (s.setSp v).reg r = s.reg r := by
  cases r <;> rfl

@[simp] theorem State.setFlags_reg (s : State) (z n h c : Bool) (r : Reg8) : (s.setFlags z n h c).reg r = s.reg r := by
  cases r <;> rfl

theorem RegsKept.setSp {s t : State} {l : List Reg8} (h : RegsKept s t l) (v : Word) : RegsKept s (t.setSp v) l :=
  fun r hr => (t.setSp_reg v r).trans (h r hr)

theorem RegsKept.setFlags {s t : State} {l : List Reg8} (h : RegsKept s t l) (z n hf c : Bool) :
    RegsKept s (t.setFlags z n hf c) l :=
  fun r hr => (t.setFlags_reg z n hf c r).trans (h r hr)

theorem flagsAre_setFlags (s : State) (z n h c : Bool) : FlagsAre (s.setFlags z n h c) z n h c := packFlags_bits z n h c

/-! ## LD r16,n16 and LD SP,HL (R200, R202) -/

/-- The first byte of the rows that name a pair: bit 3 and the low three bits are one nibble (R146, R151). -/
theorem opXPQZ_eq (x p : BitVec 2) (q : BitVec 1) (z : BitVec 3) : opXPQZ x p q z = x ++ p ++ (q ++ z) := by
  revert x p q z; decide

/-- Settles O16: one write of a pair past the instruction. -/
theorem pairLoads : Obligations.PairLoads := by
  intro i s
  refine ⟨fun p n16 hi => ⟨?_, _, exec_of_form hi s, State.setReg16_reg16_same _ p n16, fun q hq => ?_, ?_, ?_,
    (endsAt_advance s 12 (by decide)).setReg16 p n16, outsideKept_of_board_eq (by simp) (by simp)⟩, fun hi => ?_⟩
  · rw [encode_of_form hi]
    exact congrArg (· :: _) (opXPQZ_eq 0 p.code 0 1)
  · exact (State.setReg16_reg16_other _ n16 hq).trans (s.advance_reg16 3 12 q)
  · exact State.setReg16_a _ p n16
  · exact setReg16_f _ p n16
  · exact ⟨encode_of_form hi, _, exec_of_form hi s, rfl, (regsKept_advance s 1 8).setSp _, rfl,
      endsAt_advance s 8 Nat.one_pos, outsideKept_of_board_eq rfl rfl⟩

/-! ## SP plus a displacement (R203, R253) -/

theorem toNat_add_sext16 (w : Word) (e : Byte) : ((w + sext16 e).toNat : Int) = (w.toNat + e.toInt) % 0x10000 := by
  simp only [sext16, BitVec.signExtend, BitVec.toNat_add, BitVec.toNat_ofInt]
  omega

/-- Settles O18: the sum is exact modulo 0x10000, and the flags are packed from the unsigned operand byte. -/
theorem spPlusDisplacement : Obligations.SpPlusDisplacement := by
  intro i s e8
  refine ⟨fun hi => ⟨encode_of_form hi, _, exec_of_form hi s, ?_, flagsAre_setFlags _ _ _ _ _,
      ((regsKept_advance s 2 12).setHl _).setFlags _ _ _ _, rfl, endsAt_advance s 12 Nat.two_pos,
      outsideKept_of_board_eq rfl rfl⟩,
    fun hi => ⟨encode_of_form hi, _, exec_of_form hi s, toNat_add_sext16 _ _, flagsAre_setFlags _ _ _ _ _,
      ((regsKept_advance s 2 16).setSp _).setFlags _ _ _ _, endsAt_advance s 16 Nat.two_pos,
      outsideKept_of_board_eq rfl rfl⟩⟩
  have hhl := State.setHl_hl (s.advance 2 12) (s.regs.sp + sext16 e8)
  exact (congrArg (fun w : Word => (w.toNat : Int)) hhl).trans (toNat_add_sext16 s.regs.sp e8)

/-! ## Two checked writes in a row (R80, R201) -/

/-- The crash region is where it is whatever is visible (R69). -/
theorem region_ne_crash_congr {s t : Board} {a : Word} (h : s.region a ≠ .crash) : t.region a ≠ .crash :=
  region_ne_crash (fun hb => h (region_crash hb.1 hb.2))

/-- A store to plain memory hides no boot region. -/
theorem bootVisible_memWrite_plain {s : State} {a : Word} (v : Byte) (h : s.plain a) :
    (memWrite s.board a v).bootVisible = s.board.bootVisible := by
  unfold State.plain State.region at h
  unfold memWrite
  rcases h with h | h | h | h | h <;> rw [h] <;> rfl

/-- Beside a store to plain memory stands only its echo, or what it echoes (R68). -/
theorem not_besideStore_of_plain {s : State} {a b : Word} (h : s.plain a) (h1 : b ≠ a + 0x2000) (h2 : a ≠ b + 0x2000) :
    ¬ besideStore s a b := by
  unfold besideStore
  rcases h with h | h | h | h | h <;> rw [h] <;> dsimp only
  case inl | inr.inr.inr.inl | inr.inr.inr.inr => exact id
  · exact fun hb => h1 hb.2
  · exact fun hb => h2 (by bv_omega)

theorem not_crash_of_plain {s : State} {a : Word} (h : s.plain a) : s.region a ≠ .crash := by
  intro hc
  simp [State.plain, hc] at h

/-- A store after a store is `StoredTwice`. -/
theorem Stored.followedBy {s t : State} {a b : Word} {v w : Byte} (h : Stored s (busWrite s a v) a v)
    (k : Stored (busWrite s a v) t b w) : StoredTwice s t a v b w := by
  obtain ⟨-, -, hframe, hread⟩ := h
  obtain ⟨hboard, hmoves, kframe, kread⟩ := k
  refine ⟨hboard, hmoves, fun c ha hb hbesideA hbesideB hcrash => ?_, fun pa pb hne hab hba => ?_⟩
  · exact (kframe c hb hbesideB (region_ne_crash_congr hcrash)).trans (hframe c ha hbesideA hcrash)
  · have hregion : (busWrite s a v).region = s.region := funext (region_congr (bootVisible_memWrite_plain v pa))
    have pb' : (busWrite s a v).plain b := by rwa [State.plain, hregion]
    have hkept := kframe a hne (not_besideStore_of_plain pb' hab hba) (region_ne_crash_congr (not_crash_of_plain pa))
    exact ⟨hkept.trans (hread pa), kread pb'⟩

theorem storedTwice_of_memWrite {s t : State} {a b : Word} {v w : Byte}
    (hb : t.board = memWrite (memWrite s.board a v) b w) (hm : t.hostMoves = s.hostMoves) : StoredTwice s t a v b w :=
  (stored_of_memWrite (t := busWrite s a v) rfl rfl).followedBy (stored_of_memWrite hb hm)

/-- Settles O17: two checked writes past the instruction. -/
theorem storeOfSpIsLittleEndian : Obligations.StoreOfSpIsLittleEndian := by
  intro i s a16 hi
  exact ⟨encode_of_form hi, _, exec_of_form hi s, regsKept_advance s 3 20, rfl, rfl, endsAt_advance s 20 (by decide),
    storedTwice_of_memWrite rfl rfl⟩

end Sys2Proof.Machine
end

section
/-! The stack instructions (spec/41_load16.md R207, R208): PUSH is two checked writes below SP, POP two reads from SP up. -/

namespace Sys2Proof.Machine

/-! ## PUSH (R207) -/

theorem push16_reg (v : Word) (s : State) (r : Reg8) : (push16 v s).reg r = s.reg r := by
  cases r <;> rfl

theorem push16_sp (v : Word) (s : State) : (push16 v s).regs.sp = s.regs.sp - 2 := by rw [push16_eq]

theorem push16_board (v : Word) (s : State) :
    (push16 v s).board = memWrite (memWrite s.board (s.regs.sp - 1) (hiByte v)) (s.regs.sp - 2) (loByte v) := by
  rw [push16_eq]

/-- Settles O19: a push past the instruction, which writes nothing but SP and the two bytes. -/
theorem pushStoresThePair : Obligations.PushStoresThePair := by
  intro i s p hi
  refine ⟨?_, _, exec_of_form hi s, push16_sp _ _, fun r _ => ?_, rfl, endsAt_advance s 16 Nat.one_pos,
    storedTwice_of_memWrite (push16_board _ _) rfl⟩
  · rw [encode_of_form hi]
    exact congrArg ([·]) (opXPQZ_eq 3 p.code 0 5)
  · exact (push16_reg _ _ r).trans (s.advance_reg 1 16 r)

/-! ## POP (R208) -/

/-- `AF` keeps the low nibble of `F` 0 (R21, R23). -/
theorem wordOf_maskedLow (w : Word) : wordOf (hiByte w) (loByte w &&& 0xF0) = w &&& 0xFFF0 := by
  have hhi : hiByte (w &&& 0xFFF0) = hiByte w := BitVec.extractLsb'_and.trans BitVec.and_allOnes
  have hlo : loByte (w &&& 0xFFF0) = loByte w &&& 0xF0 := BitVec.extractLsb'_and
  rw [← hhi, ← hlo, wordOf_hi_lo]

theorem State.setReg16s_reg16s_same (s : State) (p : Reg16s) (v : Word) :
    (s.setReg16s p v).reg16s p = if p = .af then v &&& 0xFFF0 else v := by
  cases p
  case af => exact wordOf_maskedLow v
  all_goals exact wordOf_hi_lo v

theorem State.setReg16s_reg16s_other (s : State) {p q : Reg16s} (v : Word) (h : q ≠ p) :
    (s.setReg16s p v).reg16s q = s.reg16s q := by
  cases p <;> cases q
  case bc.bc | de.de | hl.hl | af.af => exact absurd rfl h
  all_goals rfl

@[simp] theorem State.setReg16s_sp (s : State) (p : Reg16s) (v : Word) : (s.setReg16s p v).regs.sp = s.regs.sp := by
  cases p <;> rfl

@[simp] theorem State.setReg16s_pc (s : State) (p : Reg16s) (v : Word) : (s.setReg16s p v).regs.pc = s.regs.pc := by
  cases p <;> rfl

theorem drawsOf_append (s : State) (l m : List Word) : drawsOf s (l ++ m) = drawsOf s l + drawsOf s m := by
  simp only [drawsOf, List.filter_append, List.length_append]

/-- Reads after reads store nothing either. -/
theorem OutsideKept.trans {s t u : State} {l m : List Word} (h : OutsideKept s t l) (k : OutsideKept t u m) :
    OutsideKept s u (l ++ m) := by
  obtain ⟨hboard, hmoves, hread⟩ := h
  obtain ⟨kboard, kmoves, kread⟩ := k
  have hregion : t.region = s.region := funext (region_congr (by rw [hboard]))
  have hdraws : drawsOf t m = drawsOf s m := by rw [drawsOf, hregion]; rfl
  refine ⟨?_, kmoves.trans hmoves, fun a ha => (kread a (by rwa [hregion])).trans (hread a ha)⟩
  rw [kboard, hdraws, hboard, drawsOf_append, Nat.add_assoc]

theorem afterPop_reg16s (s : State) (p : Reg16s) : (afterPop s).reg16s p = s.reg16s p := by cases p <;> rfl

/-- A pop reads the byte at SP, then the byte at SP + 1. -/
theorem outsideKept_afterPop (s : State) : OutsideKept s (afterPop s) [s.regs.sp, s.regs.sp + 1] :=
  (outsideKept_of_read (t := afterRead s s.regs.sp) rfl rfl).trans (outsideKept_of_read rfl rfl)

/-- Settles O20: a pop past the instruction, and one write of the pair. -/
theorem popLoadsThePair : Obligations.PopLoadsThePair := by
  intro i s p hi
  refine ⟨?_, _, exec_of_form hi s, State.setReg16s_reg16s_same _ p (stackTop s), fun q hq => ?_,
    State.setReg16s_sp _ p _, (endsAt_advance s 12 Nat.one_pos).congr (State.setReg16s_pc _ p _)
      (State.setReg16s_clock _ p _) (State.setReg16s_ctl _ p _), ?_⟩
  · rw [encode_of_form hi]
    exact congrArg ([·]) (opXPQZ_eq 3 p.code 0 1)
  · exact (State.setReg16s_reg16s_other _ _ hq).trans (afterPop_reg16s (s.advance 1 12) q)
  · exact ((outsideKept_of_board_eq rfl rfl).trans (outsideKept_afterPop (s.advance 1 12))).trans
      (outsideKept_of_board_eq (State.setReg16s_board _ p _) (State.setReg16s_hostMoves _ p _))

end Sys2Proof.Machine
end

section
/-! 8-bit arithmetic and logic (spec/42_alu8.md R215 to R247): what an instruction leaves that writes the flags, with or
without one register, and the flags in the words of the rules. -/

namespace Sys2Proof.Machine

/-! ## Past the instruction: one register and the flags -/

theorem EndsAt.setFlags {s t : State} {pc : Word} {k : Nat} (h : EndsAt s t pc k) (z n hf c : Bool) :
    EndsAt s (t.setFlags z n hf c) pc k := h.congr rfl rfl rfl

/-- An instruction that writes the flags alone. -/
theorem setFlags_advance_spec (s : State) {len : Nat} (k : Nat) (hlen : 0 < len) (z n h c : Bool) :
    let t := (s.advance len k).setFlags z n h c
    FlagsAre t z n h c ∧ RegsKept s t [] ∧ t.regs.sp = s.regs.sp ∧ EndsAt s t (pcn s len) k ∧ OutsideKept s t [] :=
  ⟨flagsAre_setFlags .., (regsKept_advance s len k).setFlags _ _ _ _, rfl, (endsAt_advance s k hlen).setFlags ..,
    outsideKept_of_board_eq rfl rfl⟩

/-- An instruction that writes one register and the flags. -/
theorem setReg_setFlags_advance_spec (s : State) (r : Reg8) (v : Byte) {len : Nat} (k : Nat) (hlen : 0 < len)
    (z n h c : Bool) :
    let t := ((s.advance len k).setReg r v).setFlags z n h c
    t.reg r = v ∧ FlagsAre t z n h c ∧ RegsKept s t [r] ∧ t.regs.sp = s.regs.sp ∧ EndsAt s t (pcn s len) k ∧
    OutsideKept s t [] := by
  obtain ⟨hr, hregs, -, hsp, hend⟩ := setReg_advance_spec s r v k hlen
  exact ⟨(State.setFlags_reg ..).trans hr, flagsAre_setFlags .., hregs.setFlags _ _ _ _, hsp, hend.setFlags ..,
    outsideKept_of_board_eq rfl rfl⟩

/-! ## The ALU operations around their result (R215 to R239) -/

/-- An ALU operation past the instruction writes the flags and, except for `CP`, `A`. -/
theorem aluApply_advance_spec (op : AluOp) (x : Byte) (s : State) {len : Nat} (k : Nat) (hlen : 0 < len) :
    let e := aluEffect op s.regs.a x s.flagC
    let t := aluApply op x (s.advance len k)
    t.regs.a = e.a.getD s.regs.a ∧ FlagsAre t e.z e.n e.h e.c ∧ RegsKept s t [.a] ∧ t.regs.sp = s.regs.sp ∧
    EndsAt s t (pcn s len) k ∧ OutsideKept s t [] := by
  intro e t
  obtain ⟨hflags, hregs, hsp, hend, hout⟩ := setFlags_advance_spec s k hlen e.z e.n e.h e.c
  cases op
  case cp => exact ⟨rfl, hflags, hregs.mono (List.nil_subset _), hsp, hend, hout⟩
  all_goals exact ⟨rfl, hflags, hregs.setReg .a _, hsp, hend.setReg .a _, hout⟩

theorem aluApply_afterRead (op : AluOp) (x : Byte) (s : State) (a : Word) :
    aluApply op x (afterRead s a) = afterRead (aluApply op x s) a := by
  cases op <;> rfl

/-- An ALU instruction of any of the three operand forms does what the table of operations says. -/
theorem aluRuns_of_aluUse {i : Instr} {s : State} {u : AluUse} {e : AluEffect} (hu : aluUse s i.form = some u)
    (he : aluEffect u.op s.regs.a u.x s.flagC = e) : AluRuns i s u (e.a.getD s.regs.a) e.z e.n e.h e.c := by
  subst he
  unfold aluUse at hu
  split at hu <;> cases hu
  case h_1 op r hi =>
    exact ⟨encode_of_form hi, _, exec_of_form hi s, aluApply_advance_spec op (s.reg r) s 4 Nat.one_pos⟩
  case h_2 op hi =>
    have hexec : exec i s = .next (afterRead (aluApply op (busRead s s.hl) (s.advance 1 8)) s.hl) :=
      (exec_of_form hi s).trans (congrArg Host.Outcome.next (aluApply_afterRead op (busRead s s.hl) (s.advance 1 8) s.hl))
    obtain ⟨ha, hflags, hregs, hsp, hend, hout⟩ := aluApply_advance_spec op (busRead s s.hl) s 8 Nat.one_pos
    exact ⟨encode_of_form hi, _, hexec, ha, hflags, hregs, hsp, hend, hout.trans (outsideKept_of_read rfl rfl)⟩
  case h_3 op n8 hi =>
    exact ⟨encode_of_form hi, _, exec_of_form hi s, aluApply_advance_spec op n8 s 8 Nat.two_pos⟩

/-! ## The operations in the words of the rules -/

/-- R216 to R221: `cin` takes part in the sum and in both carries. -/
theorem aluEffect_addition {op : AluOp} (hop : op = .add ∨ op = .adc) (a x : Byte) (carry : Bool) :
    let cin : Nat := if op = .adc ∧ carry = true then 1 else 0
    let sum : Nat := a.toNat + x.toNat + cin
    aluEffect op a x carry =
      { a := some (BitVec.ofNat 8 sum), z := decide (sum % 256 = 0), n := false,
        h := decide (15 < a.toNat % 16 + x.toNat % 16 + cin), c := decide (255 < sum) } := by
  rcases hop with rfl | rfl
  · rfl
  · cases carry <;> rfl

/-- Settles O21: the operation is the sum with its carry-in, in all three operand forms. -/
theorem additionsAndTheirFlags : Obligations.AdditionsAndTheirFlags :=
  fun _ s u hu hop => aluRuns_of_aluUse hu (aluEffect_addition hop s.regs.a u.x s.flagC)

/-- `sub8` (R215) on bytes: the difference is taken modulo 256, and each borrow is a comparison of naturals. -/
theorem sub8_eq (a x : Byte) (bin : Bool) :
    let diff : Byte := a - x - BitVec.ofNat 8 bin.toNat
    sub8 a x bin =
      { r := diff, z := decide (diff = 0), h := decide (a.toNat % 16 < x.toNat % 16 + bin.toNat),
        c := decide (a.toNat < x.toNat + bin.toNat) } := by
  intro diff
  have hdiff : diff.toNat = (((a.toNat : Int) - x.toNat - bin.toNat) % 256).toNat := by
    have hbin := bin.toNat_lt
    simp only [diff, BitVec.toNat_sub, BitVec.toNat_ofNat]
    omega
  have hr : BitVec.ofInt 8 ((a.toNat : Int) - x.toNat - bin.toNat) = diff :=
    BitVec.eq_of_toNat_eq ((BitVec.toNat_ofInt ..).trans hdiff.symm)
  have hz : ((a.toNat : Int) - x.toNat - bin.toNat) % 256 = 0 ↔ diff = 0 := by
    rw [BitVec.toNat_eq, hdiff]
    change _ ↔ _ = 0
    omega
  simp only [sub8, hr, hz, AluResult.mk.injEq, decide_eq_decide, true_and]
  omega

/-- R222 to R227, R237 to R239: `bin` takes part in the difference and in both borrows, and `CP` writes no result. -/
theorem aluEffect_subtraction {op : AluOp} (hop : op = .sub ∨ op = .sbc ∨ op = .cp) (a x : Byte) (carry : Bool) :
    let bin : Nat := if op = .sbc ∧ carry = true then 1 else 0
    let diff : Byte := a - x - BitVec.ofNat 8 bin
    aluEffect op a x carry =
      { a := if op = .cp then none else some diff, z := decide (diff = 0), n := true,
        h := decide (a.toNat % 16 < x.toNat % 16 + bin), c := decide (a.toNat < x.toNat + bin) } := by
  rcases hop with rfl | rfl | rfl
  all_goals simp only [aluEffect, sub8_eq]
  case inr.inl => cases carry <;> rfl
  all_goals rfl

/-- Settles O22: the operation is the difference with its borrow-in, in all three operand forms. -/
theorem subtractionsAndTheirFlags : Obligations.SubtractionsAndTheirFlags := by
  intro i s u hu hop bin diff
  have h := aluRuns_of_aluUse hu (aluEffect_subtraction hop s.regs.a u.x s.flagC)
  rwa [apply_ite (Option.getD · s.regs.a)] at h

/-- R228 to R236: H is 1 for AND alone. -/
theorem aluEffect_logic {op : AluOp} (hop : op = .and ∨ op = .xor ∨ op = .or) (a x : Byte) (carry : Bool) :
    aluEffect op a x carry =
      logicEffect (if op = .and then a &&& x else if op = .xor then a ^^^ x else a ||| x) (decide (op = .and)) := by
  rcases hop with rfl | rfl | rfl <;> rfl

/-- Settles O23: the operation is the bitwise one, in all three operand forms. -/
theorem logicOperationsAndTheirFlags : Obligations.LogicOperationsAndTheirFlags :=
  fun _ s u hu hop => aluRuns_of_aluUse hu (aluEffect_logic hop s.regs.a u.x s.flagC)

/-! ## INC and DEC of a byte (R240 to R243) -/

theorem flagC_setReg_advance (s : State) (len k : Nat) (r : Reg8) (v : Byte) :
    ((s.advance len k).setReg r v).flagC = s.flagC :=
  congrArg (BitVec.getLsbD · 4) (Regs.set_f _ r v)

theorem incFlags_eq (s : State) (v : Byte) :
    s.incFlags v = s.setFlags (decide (v = 0xFF)) false (decide (v.toNat % 16 = 15)) s.flagC := by
  have hz : v + 1 = 0 ↔ v = 0xFF := by bv_omega
  simp only [State.incFlags, hz]

theorem decFlags_eq (s : State) (v : Byte) :
    s.decFlags v = s.setFlags (decide (v = 0x01)) true (decide (v.toNat % 16 = 0)) s.flagC := by
  have hz : v - 1 = 0 ↔ v = 0x01 := by bv_omega
  simp only [State.decFlags, hz]

theorem incReg_eq (r : Reg8) (s : State) :
    incReg r s = .next (((s.advance 1 4).setReg r (s.reg r + 1)).setFlags (decide (s.reg r = 0xFF)) false
      (decide ((s.reg r).toNat % 16 = 15)) s.flagC) := by
  rw [incReg, incFlags_eq, flagC_setReg_advance]

theorem decReg_eq (r : Reg8) (s : State) :
    decReg r s = .next (((s.advance 1 4).setReg r (s.reg r - 1)).setFlags (decide (s.reg r = 0x01)) true
      (decide ((s.reg r).toNat % 16 = 0)) s.flagC) := by
  rw [decReg, decFlags_eq, flagC_setReg_advance]

theorem incMhl_eq (s : State) :
    incMhl s = .next (busWrite ((afterRead (s.advance 1 12) s.hl).setFlags (decide (busRead s s.hl = 0xFF)) false
      (decide ((busRead s s.hl).toNat % 16 = 15)) s.flagC) s.hl (busRead s s.hl + 1)) := by
  rw [incMhl, incFlags_eq]
  rfl

theorem decMhl_eq (s : State) :
    decMhl s = .next (busWrite ((afterRead (s.advance 1 12) s.hl).setFlags (decide (busRead s s.hl = 0x01)) true
      (decide ((busRead s s.hl).toNat % 16 = 0)) s.flagC) s.hl (busRead s s.hl - 1)) := by
  rw [decMhl, decFlags_eq]
  rfl

/-- An instruction that reads a byte, writes the flags and writes a byte back where it read (R82). -/
theorem setFlags_writeBack_spec (s : State) (a : Word) (v : Byte) {len : Nat} (k : Nat) (hlen : 0 < len)
    (z n h c : Bool) :
    let t := busWrite ((afterRead (s.advance len k) a).setFlags z n h c) a v
    FlagsAre t z n h c ∧ RegsKept s t [] ∧ t.regs.sp = s.regs.sp ∧ EndsAt s t (pcn s len) k ∧
    Stored (afterRead s a) t a v := by
  obtain ⟨hflags, hregs, hsp, hend, -⟩ := setFlags_advance_spec s k hlen z n h c
  exact ⟨hflags, hregs, hsp, hend, stored_of_memWrite rfl rfl⟩

/-- Settles O24: one write, of a register or at HL, and the flags, which are those of the value before. -/
theorem incrementAndDecrementOfAByte : Obligations.IncrementAndDecrementOfAByte := by
  intro i s
  exact ⟨fun r hi => ⟨encode_of_form hi, _, (exec_of_form hi s).trans (incReg_eq r s),
      setReg_setFlags_advance_spec s r _ 4 Nat.one_pos _ _ _ _⟩,
    fun r hi => ⟨encode_of_form hi, _, (exec_of_form hi s).trans (decReg_eq r s),
      setReg_setFlags_advance_spec s r _ 4 Nat.one_pos _ _ _ _⟩,
    fun hi => ⟨encode_of_form hi, _, (exec_of_form hi s).trans (incMhl_eq s),
      setFlags_writeBack_spec s s.hl _ 12 Nat.one_pos _ _ _ _⟩,
    fun hi => ⟨encode_of_form hi, _, (exec_of_form hi s).trans (decMhl_eq s),
      setFlags_writeBack_spec s s.hl _ 12 Nat.one_pos _ _ _ _⟩⟩

/-! ## DAA (R244) -/

/-- Both branches of R244 are one adjustment, added or subtracted, and the carry. -/
theorem daaResult_eq (a : Byte) (n h c : Bool) :
    let low : Nat := if h = true ∨ n = false ∧ 9 < a.toNat % 16 then 0x06 else 0
    let carry : Bool := c || (!n && decide (0x99 < a.toNat))
    let adj : Byte := BitVec.ofNat 8 (low + (if carry then 0x60 else 0))
    daaResult a n h c = (if n then a - adj else a + adj, carry) := by
  cases n
  · intro low carry adj
    have hc : (c || decide (0x99 < a.toNat)) = carry := rfl
    simp only [daaResult, adj, low, hc]
    by_cases hl : h = true ∨ 9 < a.toNat % 16
    · cases carry <;> simp [hl]
    · cases carry <;> simp [hl]
  · cases h <;> cases c <;> rfl

/-- The adjusted byte as a natural: an adjustment below 256 is added or subtracted modulo 256. -/
theorem toNat_adjusted (a : Byte) (n : Bool) {adj : Nat} (hadj : adj < 256) :
    (if n then a - BitVec.ofNat 8 adj else a + BitVec.ofNat 8 adj).toNat =
      if n then (a.toNat + 256 - adj) % 256 else (a.toNat + adj) % 256 := by
  cases n
  · simp
  · simp only [if_true, BitVec.toNat_sub, BitVec.toNat_ofNat]
    omega

/-- Settles O25: the result byte and the carry are those of the rule, and the flags are packed from the two. -/
theorem decimalAdjust : Obligations.DecimalAdjust := by
  intro i s hi a low carry adj r
  let v := daaResult s.regs.a s.flagN s.flagH s.flagC
  have hv : v = _ := daaResult_eq s.regs.a s.flagN s.flagH s.flagC
  have hadj : adj < 256 := by simp only [adj, low]; split <;> split <;> omega
  have hr : v.1.toNat = r := by rw [hv]; exact toNat_adjusted s.regs.a s.flagN hadj
  have hc : v.2 = carry := congrArg Prod.snd hv
  have hz : decide (r = 0) = decide (v.1 = 0) := by
    rw [← hr]
    exact decide_eq_decide.mpr (BitVec.toNat_eq (y := 0)).symm
  obtain ⟨ha, hflags, hrest⟩ :=
    setReg_setFlags_advance_spec s .a v.1 4 Nat.one_pos (decide (v.1 = 0)) s.flagN false v.2
  refine ⟨encode_of_form hi, _, exec_of_form hi s, (congrArg BitVec.toNat ha).trans hr, ?_, hrest⟩
  rw [hz, ← hc]
  exact hflags

/-! ## CPL, SCF, CCF (R245 to R247) -/

/-- Settles O26: the flags are written past the instruction, and by CPL the register A. -/
theorem complementAndCarryInstructions : Obligations.ComplementAndCarryInstructions := by
  intro i s
  exact ⟨fun hi => ⟨encode_of_form hi, _, exec_of_form hi s, setReg_setFlags_advance_spec s .a _ 4 Nat.one_pos _ _ _ _⟩,
    fun hi => ⟨encode_of_form hi, _, exec_of_form hi s, setFlags_advance_spec s 4 Nat.one_pos _ _ _ _⟩,
    fun hi => ⟨encode_of_form hi, _, exec_of_form hi s, setFlags_advance_spec s 4 Nat.one_pos _ _ _ _⟩⟩

end Sys2Proof.Machine
end

section
/-! 16-bit arithmetic (spec/43_alu16.md R250 to R252): what an instruction leaves that writes HL and the flags, or one
pair and no flag. -/

namespace Sys2Proof.Machine

/-! ## ADD HL,r16 (R250) -/

/-- The operands are those of the state before, as the fetch writes no pair and no flag. -/
theorem addHlR16_eq (p : Reg16) (s : State) :
    addHlR16 p s = .next (((s.advance 1 8).setHl (s.hl + s.reg16 p)).setFlags s.flagZ false (add16H s.hl (s.reg16 p))
      (add16C s.hl (s.reg16 p))) := by
  rw [addHlR16, State.advance_reg16]
  rfl

/-- An instruction that writes HL and the flags. -/
theorem setHl_setFlags_advance_spec (s : State) (v : Word) {len : Nat} (k : Nat) (hlen : 0 < len) (z n h c : Bool) :
    let t := ((s.advance len k).setHl v).setFlags z n h c
    t.hl = v ∧ FlagsAre t z n h c ∧ RegsKept s t [.h, .l] ∧ t.regs.sp = s.regs.sp ∧ EndsAt s t (pcn s len) k ∧
    OutsideKept s t [] :=
  ⟨State.setHl_hl s v, flagsAre_setFlags .., ((regsKept_advance s len k).setHl v).setFlags _ _ _ _, rfl,
    endsAt_advance s k hlen, outsideKept_of_board_eq rfl rfl⟩

/-- Settles O27: the sum of the old HL and the old pair is written to HL, and the flags are packed from the same two. -/
theorem addToHl : Obligations.AddToHl := by
  intro i s p hi v
  obtain ⟨hhl, hrest⟩ := setHl_setFlags_advance_spec s (s.hl + v) 8 Nat.one_pos s.flagZ false (add16H s.hl v)
    (add16C s.hl v)
  exact ⟨(encode_of_form hi).trans (congrArg ([·]) (opXPQZ_eq 0 p.code 1 1)), _,
    (exec_of_form hi s).trans (addHlR16_eq p s), (congrArg BitVec.toNat hhl).trans (BitVec.toNat_add s.hl v), hrest⟩

/-! ## INC r16 and DEC r16 (R251, R252) -/

/-- An instruction that writes one pair and no flag. -/
theorem setReg16_advance_spec (s : State) (p : Reg16) (v : Word) {len : Nat} (k : Nat) (hlen : 0 < len) :
    let t := (s.advance len k).setReg16 p v
    t.reg16 p = v ∧ (∀ q, q ≠ p → t.reg16 q = s.reg16 q) ∧ t.regs.a = s.regs.a ∧ t.regs.f = s.regs.f ∧
    EndsAt s t (pcn s len) k ∧ OutsideKept s t [] :=
  ⟨State.setReg16_reg16_same .., fun q hq => (State.setReg16_reg16_other _ v hq).trans (s.advance_reg16 len k q),
    State.setReg16_a .., setReg16_f .., (endsAt_advance s k hlen).setReg16 p v,
    outsideKept_of_board_eq (State.setReg16_board ..) (State.setReg16_hostMoves ..)⟩

/-- Settles O28: one write of the pair past the instruction, of its old value plus or minus one. -/
theorem incrementAndDecrementOfAPair : Obligations.IncrementAndDecrementOfAPair := by
  intro i s p
  exact ⟨fun hi => ⟨(encode_of_form hi).trans (congrArg ([·]) (opXPQZ_eq 0 p.code 0 3)), _, exec_of_form hi s,
      setReg16_advance_spec s p _ 8 Nat.one_pos⟩,
    fun hi => ⟨(encode_of_form hi).trans (congrArg ([·]) (opXPQZ_eq 0 p.code 1 3)), _, exec_of_form hi s,
      setReg16_advance_spec s p _ 8 Nat.one_pos⟩⟩

end Sys2Proof.Machine
end

section
/-! Rotates, shifts and bit operations (spec/44_rotate_shift_bit.md R259 to R286): the bits of the pure functions, then
each instruction as one write past its bytes. -/

namespace Sys2Proof.Machine

/-! ## The rotated or shifted byte, bit by bit (R259) -/

/-- One place to the left: `c` enters at bit 0. -/
theorem getLsbD_shiftedLeft (v : Byte) {b : BitVec 1} {c : Bool} (hb : b.getLsbD 0 = c) {n : Nat} (hn : n < 8) :
    (v.extractLsb' 0 7 ++ b).getLsbD n = if n = 0 then c else v.getLsbD (n - 1) := by
  rw [BitVec.getLsbD_append]
  by_cases h : n = 0
  · subst h; exact hb
  · simp [h, show n - 1 < 7 by omega]

/-- One place to the right: `c` enters at bit 7. -/
theorem getLsbD_shiftedRight (v : Byte) {b : BitVec 1} {c : Bool} (hb : b.getLsbD 0 = c) {n : Nat} (hn : n < 8) :
    (b ++ v.extractLsb' 1 7).getLsbD n = if n = 7 then c else v.getLsbD (n + 1) := by
  rw [BitVec.getLsbD_append]
  by_cases h : n = 7
  · subst h; exact hb
  · simp [h, show n < 7 by omega, Nat.add_comm]

/-- The two nibbles change places. -/
theorem getLsbD_swapped (v : Byte) {n : Nat} (hn : n < 8) :
    (v.extractLsb' 0 4 ++ v.extractLsb' 4 4).getLsbD n = v.getLsbD ((n + 4) % 8) := by
  rw [BitVec.getLsbD_append, BitVec.getLsbD_extractLsb', BitVec.getLsbD_extractLsb']
  by_cases h : n < 4
  · rw [Nat.mod_eq_of_lt (by omega)]
    simp [h, Nat.add_comm]
  · rw [show (n + 4) % 8 = n - 4 by omega]
    simp [h, show n - 4 < 4 by omega]

/-- Every operation moves the byte one place to the left or to the right, or swaps its nibbles. -/
theorem isShift_shiftResult (op : ShiftOp) (v : Byte) (cin : Bool) : IsShift op v cin (shiftResult op v cin).1 := by
  intro n hn
  have hbit (k : Nat) : (v.extractLsb' k 1).getLsbD 0 = v.getLsbD k := by simp
  have hcin : (BitVec.ofBool cin).getLsbD 0 = cin := by cases cin <;> rfl
  cases op
  case rlc =>
    have hpos : (n + 7) % 8 = if n = 0 then 7 else n - 1 := by split <;> omega
    rw [shiftBit, hpos, apply_ite v.getLsbD]
    exact getLsbD_shiftedLeft v (hbit 7) hn
  case rrc =>
    have hpos : (n + 1) % 8 = if n = 7 then 0 else n + 1 := by split <;> omega
    rw [shiftBit, hpos, apply_ite v.getLsbD]
    exact getLsbD_shiftedRight v (hbit 0) hn
  case rl => exact getLsbD_shiftedLeft v hcin hn
  case rr => exact getLsbD_shiftedRight v hcin hn
  case sla => exact getLsbD_shiftedLeft v rfl hn
  case sra => exact getLsbD_shiftedRight v (hbit 7) hn
  case srl => exact getLsbD_shiftedRight v rfl hn
  case swap => exact getLsbD_swapped v hn

theorem shiftResult_out (op : ShiftOp) (v : Byte) (cin : Bool) : (shiftResult op v cin).2 = shiftOut op v := by
  cases op <;> rfl

/-! ## Rotates and shifts of a register (R260 to R263, R265 to R279) -/

/-- The result byte is written to the register, and the carry out to the flags; how Z follows from the result is `z`. -/
theorem setShifted_advance_spec (op : ShiftOp) (r : Reg8) (s : State) (z : Byte → Bool) {len : Nat} (k : Nat)
    (hlen : 0 < len) :
    let v := shiftResult op (s.reg r) s.flagC
    let t := ((s.advance len k).setReg r v.1).setFlags (z v.1) false false v.2
    IsShift op (s.reg r) s.flagC (t.reg r) ∧ FlagsAre t (z (t.reg r)) false false (shiftOut op (s.reg r)) ∧
    RegsKept s t [r] ∧ t.regs.sp = s.regs.sp ∧ EndsAt s t (pcn s len) k ∧ OutsideKept s t [] := by
  intro v t
  obtain ⟨hr, hflags, hrest⟩ := setReg_setFlags_advance_spec s r v.1 k hlen (z v.1) false false v.2
  rw [hr, ← shiftResult_out op (s.reg r) s.flagC]
  exact ⟨isShift_shiftResult op (s.reg r) s.flagC, hflags, hrest⟩

/-- Settles O29: both kinds write the same function of the byte and the carry; the rotates of A clear Z. -/
theorem rotatesAndShiftsOfARegister : Obligations.RotatesAndShiftsOfARegister := by
  intro i s op
  refine ⟨fun byte => ?_, fun r hi => ⟨encode_of_form hi, _, exec_of_form hi s,
    setShifted_advance_spec op r s (fun v => decide (v = 0)) 8 Nat.two_pos⟩⟩
  have hspec := setShifted_advance_spec op .a s (fun _ => false) 4 Nat.one_pos
  rintro (⟨hi, rfl, rfl⟩ | ⟨hi, rfl, rfl⟩ | ⟨hi, rfl, rfl⟩ | ⟨hi, rfl, rfl⟩)
  · exact ⟨encode_of_form hi, _, exec_of_form hi s, hspec⟩
  · exact ⟨encode_of_form hi, _, exec_of_form hi s, hspec⟩
  · exact ⟨encode_of_form hi, _, exec_of_form hi s, hspec⟩
  · exact ⟨encode_of_form hi, _, exec_of_form hi s, hspec⟩

/-! ## Rotates and shifts of the byte at HL (R266 to R280) -/

/-- Settles O30: the flags are packed from the result and the same byte is stored back, whatever the target does. -/
theorem shiftsInMemory : Obligations.ShiftsInMemory := by
  intro i s op hi
  let v := shiftResult op (busRead s s.hl) s.flagC
  have hout : v.2 = shiftOut op (busRead s s.hl) := shiftResult_out ..
  refine ⟨encode_of_form hi, v.1, isShift_shiftResult op _ _, _, exec_of_form hi s, ?_⟩
  rw [← hout]
  exact setFlags_writeBack_spec s s.hl v.1 16 Nat.two_pos _ _ _ _

/-! ## BIT (R281, R282) -/

/-- Settles O31: the flags are all that is written past the instruction; at HL there is one read besides. -/
theorem bitTests : Obligations.BitTests := by
  intro i s b
  refine ⟨fun r hi => ⟨encode_of_form hi, _, exec_of_form hi s, setFlags_advance_spec s 8 Nat.two_pos _ _ _ _⟩,
    fun hi => ⟨encode_of_form hi, _, exec_of_form hi s, ?_⟩⟩
  obtain ⟨hflags, hregs, hsp, hend, -⟩ :=
    setFlags_advance_spec s 12 Nat.two_pos (!(busRead s s.hl).getLsbD b.toNat) false true s.flagC
  exact ⟨hflags, hregs, hsp, hend, outsideKept_of_read rfl rfl⟩

/-! ## RES and SET (R283 to R286) -/

theorem getLsbD_bitMask (b : BitVec 3) (n : Nat) : (bitMask b).getLsbD n = decide (n = b.toNat) := by
  have hb := b.isLt
  rw [bitMask, ← BitVec.twoPow, BitVec.getLsbD_twoPow, decide_eq_true hb, Bool.true_and]
  exact decide_eq_decide.mpr eq_comm

/-- `v` with bit `b` set or reset, as SET and RES compute it. -/
def putBit (b : BitVec 3) (on : Bool) (v : Byte) : Byte := if on then v ||| bitMask b else v &&& ~~~(bitMask b)

theorem getLsbD_putBit (b : BitVec 3) (on : Bool) (v : Byte) {n : Nat} (hn : n < 8) :
    (putBit b on v).getLsbD n = if n = b.toNat then on else v.getLsbD n := by
  cases on
  case true =>
    rw [putBit, if_pos rfl, BitVec.getLsbD_or, getLsbD_bitMask]
    by_cases h : n = b.toNat <;> simp [h]
  case false =>
    rw [putBit, if_neg Bool.false_ne_true, BitVec.getLsbD_and, BitVec.getLsbD_not, getLsbD_bitMask]
    by_cases h : n = b.toNat <;> simp [h, hn]

theorem runForm_putBit_reg (b : BitVec 3) (on : Bool) (r : Reg8) (s : State) :
    runForm (if on then .setReg b r else .resReg b r) s = .next ((s.advance 2 8).setReg r (putBit b on (s.reg r))) := by
  cases on <;> rfl

theorem runForm_putBit_mhl (b : BitVec 3) (on : Bool) (s : State) :
    runForm (if on then .setMhl b else .resMhl b) s =
      .next (busWrite (afterRead (s.advance 2 16) s.hl) s.hl (putBit b on (busRead s s.hl))) := by
  cases on <;> rfl

/-- Settles O32: one write of the byte with the bit put, to the register or back at HL. -/
theorem bitResetAndSet : Obligations.BitResetAndSet := by
  intro i s b on
  refine ⟨fun r hi => ⟨(encode_of_form hi).trans ?_, _, (exec_of_form hi s).trans (runForm_putBit_reg b on r s), ?_⟩,
    fun hi => ⟨(encode_of_form hi).trans ?_, putBit b on (busRead s s.hl), fun n => getLsbD_putBit b on _, _,
      (exec_of_form hi s).trans (runForm_putBit_mhl b on s), regsKept_advance s 2 16, rfl, rfl,
      endsAt_advance s 16 Nat.two_pos, stored_of_memWrite rfl rfl⟩⟩
  · cases on <;> rfl
  · obtain ⟨hr, hregs, hf, hsp, hend⟩ := setReg_advance_spec s r (putBit b on (s.reg r)) 8 Nat.two_pos
    exact ⟨fun n hn => by rw [hr]; exact getLsbD_putBit b on _ hn, hregs, hf, hsp, hend, outsideKept_of_board_eq rfl rfl⟩
  · cases on <;> rfl

end Sys2Proof.Machine
end

section
/-! Control flow (spec/45_control_flow.md R291 to R303): a transfer writes PC past the instruction; CALL and RST push the
next instruction's address first, RET pops the target. -/

namespace Sys2Proof.Machine

/-! ## Past the instruction: PC -/

@[simp] theorem State.setPc_reg (s : State) (v : Word) (r : Reg8) : (s.setPc v).reg r = s.reg r := by
  cases r <;> rfl

theorem RegsKept.setPc {s t : State} {l : List Reg8} (h : RegsKept s t l) (v : Word) : RegsKept s (t.setPc v) l :=
  fun r hr => (t.setPc_reg v r).trans (h r hr)

/-- Going past the instruction is a transfer to `pcn`. -/
theorem advance_eq_setPc (s : State) {n : Nat} (k : Nat) (hn : 0 < n) :
    s.advance n k = (s.advance n k).setPc (pcn s n) := by
  rw [← nextPc_eq_pcn s hn]
  rfl

/-- The first byte of the rows that name a condition: it stands in the low two bits of `y` (R147, R151). -/
theorem opXYZ_condition (x : BitVec 2) (y : BitVec 1) (cc : BitVec 2) (z : BitVec 3) :
    opXYZ x (y ++ cc) z = (x ++ y) ++ cc ++ z := by
  revert x y cc z; decide

/-- An instruction that does nothing but go past its bytes. -/
theorem runs_advance {i : Instr} {s : State} {n k : Nat} (hn : 0 < n) (h : exec i s = .next (s.advance n k)) :
    Runs i s fun t =>
      t.regs.sp = s.regs.sp ∧ RegsKept s t [] ∧ t.regs.f = s.regs.f ∧ EndsAt s t (pcn s n) k ∧ OutsideKept s t [] :=
  ⟨_, h, rfl, regsKept_advance s n k, rfl, endsAt_advance s k hn, outsideKept_of_board_eq rfl rfl⟩

/-! ## Jumps (R291 to R295) -/

theorem jumpBy_advance (s : State) {n : Nat} (k : Nat) (hn : 0 < n) (e8 : Byte) :
    (s.advance n k).jumpBy e8 = (s.advance n k).setPc (pcn s n + e8.signExtend 16) := by
  rw [← nextPc_eq_pcn s hn]
  rfl

theorem jpCc_eq (cc : Cond) (a16 : Word) (s : State) :
    jpCc cc a16 s =
      .next ((s.advance 3 (if s.holds cc then 16 else 12)).setPc (if s.holds cc then a16 else pcn s 3)) := by
  unfold jpCc
  split
  · rfl
  · rw [← advance_eq_setPc s 12 (by decide)]

theorem jr_eq (e8 : Byte) (s : State) : jr e8 s = .next ((s.advance 2 12).setPc (pcn s 2 + e8.signExtend 16)) := by
  rw [jr, jumpBy_advance s 12 Nat.two_pos]

theorem jrCc_eq (cc : Cond) (e8 : Byte) (s : State) :
    jrCc cc e8 s =
      .next ((s.advance 2 (if s.holds cc then 12 else 8)).setPc
        (if s.holds cc then pcn s 2 + e8.signExtend 16 else pcn s 2)) := by
  unfold jrCc
  split
  · exact jr_eq e8 s
  · rw [← advance_eq_setPc s 8 Nat.two_pos]

/-- An instruction that writes PC past its bytes, and nothing else. -/
theorem runs_setPc_advance {i : Instr} {s : State} {n k : Nat} {pc : Word}
    (h : exec i s = .next ((s.advance n k).setPc pc)) :
    Runs i s fun t =>
      RegsKept s t [] ∧ t.regs.f = s.regs.f ∧ t.regs.sp = s.regs.sp ∧ EndsAt s t pc k ∧ OutsideKept s t [] :=
  ⟨_, h, (regsKept_advance s n k).setPc pc, rfl, rfl, ⟨rfl, rfl, rfl⟩, outsideKept_of_board_eq rfl rfl⟩

/-- Settles O33: each form is one write of PC past the instruction; a conditional form that is not taken goes to
`pcn`. -/
theorem jumpsGoToTheirTarget : Obligations.JumpsGoToTheirTarget := by
  intro i s pc cycles bytes
  rintro (⟨a16, hi, rfl, rfl, rfl⟩ | ⟨cc, a16, hi, rfl, rfl, rfl⟩ | ⟨hi, rfl, rfl, rfl⟩ | ⟨e8, hi, rfl, rfl, rfl⟩ |
    ⟨cc, e8, hi, rfl, rfl, rfl⟩)
  · exact ⟨encode_of_form hi, runs_setPc_advance (exec_of_form hi s)⟩
  · exact ⟨(encode_of_form hi).trans (congrArg (· :: _) (opXYZ_condition 3 0 cc.code 2)),
      runs_setPc_advance ((exec_of_form hi s).trans (jpCc_eq cc a16 s))⟩
  · exact ⟨encode_of_form hi, runs_setPc_advance (exec_of_form hi s)⟩
  · exact ⟨encode_of_form hi, runs_setPc_advance ((exec_of_form hi s).trans (jr_eq e8 s))⟩
  · exact ⟨(encode_of_form hi).trans (congrArg (· :: _) (opXYZ_condition 0 1 cc.code 0)),
      runs_setPc_advance ((exec_of_form hi s).trans (jrCc_eq cc e8 s))⟩

/-! ## Calls (R296, R297, R303) -/

theorem callCc_taken {cc : Cond} {s : State} (h : s.holds cc = true) (a16 : Word) : callCc cc a16 s = call a16 s :=
  if_pos h

theorem callCc_notTaken {cc : Cond} {s : State} (h : s.holds cc = false) (a16 : Word) :
    callCc cc a16 s = .next (s.advance 3 12) :=
  if_neg (ne_true_of_eq_false h)

theorem rstVector_eq (t : BitVec 3) : 8 * t.setWidth 16 = BitVec.ofNat 16 (8 * t.toNat) := by
  revert t; decide

/-- A push of `pcn` past the instruction, then the transfer. -/
theorem runs_callTo_advance {i : Instr} {s : State} {n k : Nat} {target : Word} (hn : 0 < n)
    (h : exec i s = .next ((s.advance n k).callTo target)) :
    Runs i s fun t =>
      t.regs.sp = s.regs.sp - 2 ∧ RegsKept s t [] ∧ t.regs.f = s.regs.f ∧ EndsAt s t target k ∧
      StoredTwice s t (s.regs.sp - 1) ((pcn s n).extractLsb' 8 8) (s.regs.sp - 2) ((pcn s n).extractLsb' 0 8) := by
  have hpc : (s.advance n k).regs.pc = pcn s n := nextPc_eq_pcn s hn
  rw [State.callTo, hpc] at h
  have hregs : RegsKept s (push16 (pcn s n) (s.advance n k)) [] :=
    fun r _ => (push16_reg _ _ r).trans (s.advance_reg n k r)
  exact ⟨_, h, push16_sp (pcn s n) (s.advance n k), hregs.setPc target, rfl, ⟨rfl, rfl, rfl⟩,
    storedTwice_of_memWrite (push16_board (pcn s n) (s.advance n k)) rfl⟩

/-- Settles O34: the three forms are the same push and transfer, past three bytes or one; a CALL cc that is not taken does
neither. -/
theorem callsPushTheReturnAddress : Obligations.CallsPushTheReturnAddress := by
  intro i s
  refine ⟨fun ret target cycles bytes => ?_, fun cc target hi hcc =>
    runs_advance (by decide) ((exec_of_form hi s).trans (callCc_notTaken hcc target))⟩
  rintro (⟨hi, rfl, rfl, rfl⟩ | ⟨cc, hi, hcc, rfl, rfl, rfl⟩ | ⟨n, hi, rfl, rfl, rfl, rfl⟩)
  · exact ⟨encode_of_form hi, runs_callTo_advance (by decide) (exec_of_form hi s)⟩
  · exact ⟨(encode_of_form hi).trans (congrArg (· :: _) (opXYZ_condition 3 0 cc.code 4)),
      runs_callTo_advance (by decide) ((exec_of_form hi s).trans (callCc_taken hcc target))⟩
  · rw [← rstVector_eq]
    exact ⟨encode_of_form hi, runs_callTo_advance Nat.one_pos (exec_of_form hi s)⟩

/-! ## Returns (R298 to R300) -/

theorem retCc_taken {cc : Cond} {s : State} (h : s.holds cc = true) : retCc cc s = .next (s.advance 1 20).returnTo :=
  if_pos h

theorem retCc_notTaken {cc : Cond} {s : State} (h : s.holds cc = false) : retCc cc s = .next (s.advance 1 8) :=
  if_neg (ne_true_of_eq_false h)

theorem afterPop_reg (s : State) (r : Reg8) : (afterPop s).reg r = s.reg r := by cases r <;> rfl

/-- A pop past the instruction, then the transfer to what it read. -/
theorem returnTo_advance_spec (s : State) (n k : Nat) :
    let t := (s.advance n k).returnTo
    t.regs.sp = s.regs.sp + 2 ∧ RegsKept s t [] ∧ t.regs.f = s.regs.f ∧ EndsAt s t (stackTop s) k ∧
    OutsideKept s t [s.regs.sp, s.regs.sp + 1] := by
  have hregs : RegsKept s (afterPop (s.advance n k)) [] := fun r _ => (afterPop_reg _ r).trans (s.advance_reg n k r)
  have hpop : OutsideKept s (afterPop (s.advance n k)) [s.regs.sp, s.regs.sp + 1] :=
    (outsideKept_of_board_eq rfl rfl).trans (outsideKept_afterPop (s.advance n k))
  exact ⟨rfl, hregs.setPc _, rfl, ⟨rfl, rfl, rfl⟩, hpop⟩

/-- Settles O35: RET, a taken RET cc and RETI are the same pop and transfer; RETI then writes the control bits. -/
theorem returnsPopPc : Obligations.ReturnsPopPc := by
  intro i s
  refine ⟨fun cycles bytes => ?_, fun cc hi hcc =>
    runs_advance Nat.one_pos ((exec_of_form hi s).trans (retCc_notTaken hcc)), fun hi => ⟨encode_of_form hi, ?_⟩⟩
  · rintro (⟨hi, rfl, rfl⟩ | ⟨cc, hi, hcc, rfl, rfl⟩)
    · exact ⟨encode_of_form hi, _, exec_of_form hi s, returnTo_advance_spec s 1 16⟩
    · exact ⟨(encode_of_form hi).trans (congrArg ([·]) (opXYZ_condition 3 0 cc.code 0)), _,
        (exec_of_form hi s).trans (retCc_taken hcc), returnTo_advance_spec s 1 20⟩
  · obtain ⟨hsp, hregs, hf, ⟨hpc, hclock, -⟩, hout⟩ := returnTo_advance_spec s 1 16
    exact ⟨_, exec_of_form hi s, hsp, hregs, hf, hpc, hclock, rfl, hout⟩

end Sys2Proof.Machine
end

section
/-! NOP, DI and EI (spec/46_cpu_control.md R310, R313, R314): past their one byte they write control bits alone. -/

namespace Sys2Proof.Machine

/-- An instruction that goes past its bytes and writes nothing but the control bits. -/
theorem runs_advance_withCtl {i : Instr} {s : State} {n k : Nat} {ctl : Control} (hn : 0 < n)
    (h : exec i s = .next { s.advance n k with ctl := ctl }) :
    Runs i s fun t =>
      t.regs = { s.regs with pc := pcn s n } ∧ t.clock = s.clock + k ∧ t.ctl = ctl ∧ OutsideKept s t [] := by
  have hregs : (s.advance n k).regs = { s.regs with pc := pcn s n } := by rw [← nextPc_eq_pcn s hn]; rfl
  exact ⟨_, h, hregs, rfl, rfl, outsideKept_of_board_eq rfl rfl⟩

/-- Settles O36: each of the three is one advance past its byte, with the control bits it names. -/
theorem nopDiEi : Obligations.NopDiEi := by
  rintro i s ctl bytes (⟨hi, rfl, rfl⟩ | ⟨hi, rfl, rfl⟩ | ⟨hi, rfl, rfl⟩)
  all_goals exact ⟨encode_of_form hi, runs_advance_withCtl Nat.one_pos (exec_of_form hi s)⟩

end Sys2Proof.Machine
end

section
/-! The exceptions family (spec/60_exceptions.md), the CPU: interrupt entry and the halted machine (R327 to R333). -/

namespace Sys2Proof.Machine

/-! ## The source that is taken (R329, R333) -/

/-- Only bits 4..0 can be pending (R327). -/
theorem pendingInterrupts_lt (s : Board) : pendingInterrupts s < 32#8 := by
  have h : (pendingInterrupts s).toNat ≤ 31 := by
    rw [pendingInterrupts, BitVec.toNat_and]
    exact Nat.and_le_right
  exact Nat.lt_succ_of_le h

/-- A pending set that is not empty has a lowest source, and the entry takes it. -/
theorem isTaken_lowestPending {pending : Byte} (h0 : pending ≠ 0) (h : pending < 32#8) :
    IsTaken pending (lowestPending pending).toNat := by
  unfold IsTaken
  revert pending
  decide

/-- There is one lowest source. -/
theorem IsTaken.unique {pending : Byte} {i j : Nat} (hi : IsTaken pending i) (hj : IsTaken pending j) : j = i := by
  obtain ⟨-, hpi, hlowi⟩ := hi
  obtain ⟨-, hpj, hlowj⟩ := hj
  rcases Nat.lt_trichotomy i j with h | h | h
  · exact absurd (hpi.symm.trans (hlowj i h)) (by decide)
  · exact h.symm
  · exact absurd (hpj.symm.trans (hlowi j h)) (by decide)

theorem interruptVector_eq (i : BitVec 3) : interruptVector i = BitVec.ofNat 16 (0x40 + 8 * i.toNat) := by
  revert i; decide

/-! ## Stores away from the I/O page (R80) -/

/-- The I/O page is where it is whatever is visible (R71). -/
theorem region_io_iff (s : Board) (a : Word) : s.region a = .io ↔ 0xFF00 ≤ a ∧ a ≤ 0xFF7F := by
  have hb := regionOf_bounds s.bootVisible a
  refine ⟨fun h => by rwa [show regionOf s.bootVisible a = .io from h] at hb, fun h => ?_⟩
  unfold Board.region
  cases hr : regionOf s.bootVisible a <;> rw [hr] at hb <;> dsimp only at hb
  all_goals bv_omega

/-- A store elsewhere leaves the I/O registers. -/
theorem rawRead_memWrite_of_not_io {s t : Board} {a : Word} (h : t.region a ≠ .io) (v : Byte) {b : Word} (h1 : 0xFF00 ≤ b)
    (h2 : b ≤ 0xFF7F) : rawRead (memWrite s a v) b = rawRead s b := by
  rw [Ne, region_io_iff, ← region_io_iff s] at h
  rcases memWrite_cases s a v with ⟨hio, -⟩ | ⟨-, same⟩
  · exact absurd hio h
  · exact same.bytes b h1 h2

/-! ## The CPU step -/

/-- With IME set a pending request is taken, halted or not (R330, R331). -/
theorem cpuStep_of_interrupt {s : State} (him : s.ctl.ime = true) (hp : pendingInterrupts s.board ≠ 0) :
    cpuStep s = .next (interruptEntry (pendingInterrupts s.board) (wake s)) := by
  rw [cpuStep, if_neg (fun h => hp h.2), if_pos ⟨him, hp⟩]

/-- Settles O6: the CPU step is interrupt entry, which acknowledges the lowest pending source and then pushes twice. -/
theorem interruptEntrySavesPcAndGoesToTheVector : Obligations.InterruptEntrySavesPcAndGoesToTheVector := by
  intro s him hp
  have htaken := isTaken_lowestPending hp (pendingInterrupts_lt s.board)
  refine ⟨_, htaken, fun j hj => htaken.unique hj, _, cpuStep_of_interrupt him hp, ?_⟩
  dsimp only
  rw [interruptEntry_eq]
  refine ⟨?_, rfl, rfl, storedTwice_of_memWrite rfl rfl, fun h1 h2 => ?_⟩
  · rw [interruptVector_eq]
    rfl
  · refine (rawRead_memWrite_of_not_io h2 _ (by decide) (by decide)).trans ?_
    refine (rawRead_memWrite_of_not_io h1 _ (by decide) (by decide)).trans ?_
    exact rawRead_rawWrite_same _ _ _

/-- A halted machine with nothing pending idles (R331). -/
theorem cpuStep_of_idle {s : State} (hh : s.ctl.halted = true) (hp : pendingInterrupts s.board = 0) :
    cpuStep s = .next (idle s) := by
  rw [cpuStep, if_pos ⟨hh, hp⟩]

/-- A pending request wakes the machine: it goes on as if it had not been halted (R331). -/
theorem cpuStep_wake {s : State} (hp : pendingInterrupts s.board ≠ 0) : cpuStep s = cpuStep (wake s) := by
  have hidle (t : State) (ht : t.board = s.board) : ¬ (t.ctl.halted = true ∧ pendingInterrupts t.board = 0) :=
    fun h => hp (ht ▸ h.2)
  rw [cpuStep, cpuStep, if_neg (hidle s rfl), if_neg (hidle (wake s) rfl)]
  rfl

/-- Settles O7: an idle CPU step is 4 cycles, and the rest of the system step is the peripherals' catching up by them. -/
theorem haltedCpuIdlesUntilSomethingIsPending : Obligations.HaltedCpuIdlesUntilSomethingIsPending := by
  refine ⟨fun s hh hp => ⟨cpuStep_of_idle hh hp, fun hf hs hm => ?_⟩, fun s hh hp => ⟨cpuStep_wake hp, fun him => ?_⟩⟩
  · have hcycles : (idle s).clock - s.clock = 4 := Nat.add_sub_cancel_left ..
    rw [step_eq_systemStep hf hs hm, systemStep, cpuStep_of_idle hh hp]
    dsimp only
    rw [hcycles]
    rfl
  · rw [cpuStep_wake hp]
    exact cpuStep_eq_runInstruction (s := wake s) rfl (.inl him)

end Sys2Proof.Machine
end

section
/-! The exceptions family (spec/60_exceptions.md), the Timer: what `n` increments of DIV and of TIMA leave (R350 to R354). -/

namespace Sys2Proof.Machine

theorem iterate_add (f : Board → Board) (m n : Nat) (s : Board) : iterate f (m + n) s = iterate f n (iterate f m s) := by
  induction m generalizing s with
  | zero => rw [Nat.zero_add]; rfl
  | succ m ih => rw [Nat.succ_add]; exact ih (f s)

/-! ## DIV (R350, R352) -/

theorem iterate_divTick_div (n : Nat) (s : Board) :
    rawRead (iterate divTick n s) Io.div = rawRead s Io.div + BitVec.ofNat 8 n := by
  induction n generalizing s with
  | zero => exact (BitVec.add_zero _).symm
  | succ n ih =>
    rw [iterate, ih, divTick, rawRead_rawWrite_same]
    bv_omega

theorem divStep_div (n : Nat) (s : Board) :
    rawRead (divStep n s) Io.div = rawRead s Io.div + BitVec.ofNat 8 ((s.timer.divAcc + n) / 256) :=
  iterate_divTick_div _ _

theorem divStep_timer (n : Nat) (s : Board) :
    (divStep n s).timer = { s.timer with divAcc := (s.timer.divAcc + n) % 256 } :=
  iterate_timer (f := divTick) (fun _ => rfl) _ _

/-! ## TIMA (R351, R352, R354) -/

/-- The period of TIMA by TAC as a number (R351). -/
theorem timaPeriod_eq (tac : Byte) :
    timaPeriod (tac.extractLsb' 0 2) = if tac.toNat % 4 = 0 then 1024 else if tac.toNat % 4 = 1 then 16
      else if tac.toNat % 4 = 2 then 64 else 256 := by
  have h (n : Nat) (hn : n < 4) : tac.extractLsb' 0 2 = BitVec.ofNat 2 n ↔ tac.toNat % 4 = n := by
    rw [extractLsb'_zero_eq_ofNat, ← BitVec.toNat_inj, BitVec.toNat_ofNat, BitVec.toNat_ofNat, Nat.mod_eq_of_lt (a := n) hn]
  unfold timaPeriod
  simp only [← h 0 (by decide), ← h 1 (by decide), ← h 2 (by decide)]
  rfl

theorem timaStep_off {s : Board} (h : (rawRead s Io.tac).getLsbD 2 = false) (n : Nat) : timaStep n s = s :=
  if_neg (ne_true_of_eq_false h)

/-- `s` with TIMA's accumulator at `m`. -/
def withTimaAcc (m : Nat) (s : Board) : Board := { s with timer := { s.timer with timaAcc := m } }

/-- With TAC[2] = 1: the full periods are so many ticks, the rest stays in the accumulator (R352). -/
theorem timaStep_on {s : Board} (h : (rawRead s Io.tac).getLsbD 2 = true) (n : Nat) :
    let p := timaPeriod ((rawRead s Io.tac).extractLsb' 0 2)
    timaStep n s = iterate timaTick ((s.timer.timaAcc + n) / p) (withTimaAcc ((s.timer.timaAcc + n) % p) s) :=
  if_pos h

/-- A tick below 0xFF counts and nothing else. -/
theorem timaTick_count {s : Board} (h : rawRead s Io.tima ≠ 0xFF) : timaTick s = rawWrite s Io.tima (rawRead s Io.tima + 1) :=
  if_neg h

/-- A tick at 0xFF reloads from TMA and requests (R354). -/
theorem timaTick_overflow {s : Board} (h : rawRead s Io.tima = 0xFF) :
    rawRead (timaTick s) Io.tima = rawRead s Io.tma ∧ rawRead (timaTick s) Io.if_ = rawRead s Io.if_ ||| 0x04 := by
  have kept : rawRead (rawWrite s Io.tima (rawRead s Io.tma)) Io.if_ = rawRead s Io.if_ := rawRead_rawWrite_other s _ (by decide)
  rw [timaTick, if_pos h, requestInterrupt, kept]
  exact ⟨(rawRead_rawWrite_other _ _ (by decide)).trans (rawRead_rawWrite_same _ _ _), rawRead_rawWrite_same _ _ _⟩

/-- Ticks that do not overflow. -/
theorem iterate_timaTick_count {k : Nat} {s : Board} (h : (rawRead s Io.tima).toNat + k < 256) :
    (rawRead (iterate timaTick k s) Io.tima).toNat = (rawRead s Io.tima).toNat + k ∧
    rawRead (iterate timaTick k s) Io.if_ = rawRead s Io.if_ := by
  induction k generalizing s with
  | zero => exact ⟨rfl, rfl⟩
  | succ k ih =>
    have htick : timaTick s = _ := timaTick_count (fun e => by rw [e] at h; simp at h; omega)
    have htima : (rawRead (timaTick s) Io.tima).toNat = (rawRead s Io.tima).toNat + 1 := by
      rw [htick, rawRead_rawWrite_same]
      bv_omega
    have hif : rawRead (timaTick s) Io.if_ = rawRead s Io.if_ := by
      rw [htick]
      exact rawRead_rawWrite_other s _ (by decide)
    obtain ⟨h1, h2⟩ := ih (s := timaTick s) (by omega)
    exact ⟨by rw [iterate, h1]; omega, h2.trans hif⟩

theorem iterate_timaTick_tma (k : Nat) (s : Board) : rawRead (iterate timaTick k s) Io.tma = rawRead s Io.tma :=
  (Touches.iterate touches_timaTick k s).bytes Io.tma (by simp)

/-- Ticks with one overflow among them: up to 0xFF, the reload, and on from TMA. -/
theorem iterate_timaTick_overflow {k : Nat} {s : Board} (h1 : 256 ≤ (rawRead s Io.tima).toNat + k)
    (h2 : (rawRead s Io.tima).toNat + k < 512 - (rawRead s Io.tma).toNat) :
    (rawRead (iterate timaTick k s) Io.tima).toNat = (rawRead s Io.tma).toNat + ((rawRead s Io.tima).toNat + k - 256) ∧
    rawRead (iterate timaTick k s) Io.if_ = rawRead s Io.if_ ||| 0x04 := by
  have hlt := (rawRead s Io.tima).isLt
  obtain ⟨up, rest, hup, hk⟩ : ∃ up rest, (rawRead s Io.tima).toNat + up = 255 ∧ k = up + (rest + 1) :=
    ⟨255 - (rawRead s Io.tima).toNat, (rawRead s Io.tima).toNat + k - 256, by omega, by omega⟩
  obtain ⟨hfull, hif⟩ := iterate_timaTick_count (k := up) (s := s) (by omega)
  have htma := iterate_timaTick_tma up s
  rw [hk, iterate_add]
  generalize iterate timaTick up s = t at *
  obtain ⟨hreload, hrequest⟩ := timaTick_overflow (s := t) (by rw [← BitVec.toNat_inj, hfull, hup]; rfl)
  obtain ⟨hcount, hkept⟩ := iterate_timaTick_count (k := rest) (s := timaTick t) (by rw [hreload, htma]; omega)
  refine ⟨?_, ?_⟩
  · rw [iterate, hcount, hreload, htma]
    omega
  · rw [iterate, hkept, hrequest, hif]

/-- The counter's half leaves the divider's accumulator. -/
theorem timaStep_divAcc (n : Nat) (s : Board) : (timaStep n s).timer.divAcc = s.timer.divAcc := by
  unfold timaStep
  dsimp only
  split
  · rw [iterate_timer timaTick_timer]
  · rfl

/-- Settles O45: the divider's half leaves TIMA's registers alone, and the counter's half is a number of ticks. -/
theorem timerCountsCycles : Obligations.TimerCountsCycles := by
  intro s n t count p k tima tma
  have kept {a : Word} (h : a ∉ [Io.div]) : rawRead (divStep n s) a = rawRead s a := (touches_divStep n s).bytes a h
  have ht : t = timaStep n (divStep n s) := rfl
  have htac : rawRead (divStep n s) Io.tac = rawRead s Io.tac := kept (by simp)
  have htima : tima = (rawRead (divStep n s) Io.tima).toNat := by rw [kept (by simp)]
  have htma : tma = (rawRead (divStep n s) Io.tma).toNat := by rw [kept (by simp)]
  have hif : rawRead s Io.if_ = rawRead (divStep n s) Io.if_ := (kept (by simp)).symm
  have hacc : (divStep n s).timer.timaAcc = s.timer.timaAcc := by rw [divStep_timer]
  refine ⟨?_, ?_, fun hoff => ?_, fun hon => ?_⟩
  · rw [ht, (touches_timaStep n (divStep n s)).bytes 0xFF04 (by simp), divStep_div, BitVec.toNat_add, BitVec.toNat_ofNat]
    dsimp only [count, Io.div]
    omega
  · rw [ht, timaStep_divAcc, divStep_timer]
    dsimp only [count]
    omega
  · rw [ht, timaStep_off (htac ▸ hoff), hacc]
    exact ⟨kept (by simp), rfl, hif.symm⟩
  · have hp : p = timaPeriod ((rawRead s Io.tac).extractLsb' 0 2) := (timaPeriod_eq _).symm
    have hticks := timaStep_on (s := divStep n s) (htac ▸ hon) n
    rw [htac, hacc, ← hp] at hticks
    rw [ht, hticks, iterate_timer timaTick_timer, htima, htma, hif]
    generalize (s.timer.timaAcc + n) % p = m
    exact ⟨rfl, iterate_timaTick_count (s := withTimaAcc m (divStep n s)),
      iterate_timaTick_overflow (s := withTimaAcc m (divStep n s))⟩

end Sys2Proof.Machine
end

section
/-! The exceptions family (spec/60_exceptions.md), the joypad: the host's move on the buttons (R345, R346). -/

namespace Sys2Proof.Machine

/-- A line falls when P1 shows it 1 before the move and 0 after it (R346). -/
theorem lineFalls_iff (b : Byte) (s : Board) :
    lineFalls b s = true ↔
      ∃ n < 4, (rawRead s Io.p1).getLsbD n = true ∧ (rawRead (pressButtons b s) Io.p1).getLsbD n = false := by
  have bit (n : Nat) (hn : n < 4) :
      ((rawRead s Io.p1).extractLsb' 0 4 &&& ~~~((p1Value (rawRead s Io.p1) b).extractLsb' 0 4)).getLsbD n = true ↔
        (rawRead s Io.p1).getLsbD n = true ∧ (rawRead (pressButtons b s) Io.p1).getLsbD n = false := by
    rw [rawRead_pressButtons_p1]
    simp [hn]
  rw [lineFalls, decide_eq_true_iff, ne_eq]
  constructor
  · intro h
    by_contra hnone
    refine h (BitVec.eq_of_getLsbD_eq fun n hn => ?_)
    refine (Bool.eq_false_iff.mpr ?_).trans BitVec.getLsbD_zero.symm
    exact fun hbit => hnone ⟨n, hn, (bit n hn).mp hbit⟩
  · rintro ⟨n, hn, hfall⟩ hzero
    have hbit := (bit n hn).mpr hfall
    rw [hzero] at hbit
    exact absurd (BitVec.getLsbD_zero.symm.trans hbit) (by decide)

/-- The request is bit 4 of IF, for a falling line only (R346). -/
theorem pressButtons_if (b : Byte) (s : Board) :
    rawRead (pressButtons b s) Io.if_ = if lineFalls b s then rawRead s Io.if_ ||| 0x10 else rawRead s Io.if_ := by
  have kept : rawRead (rawWrite { s with buttons := b } Io.p1 (p1Value (rawRead s Io.p1) b)) Io.if_ = rawRead s Io.if_ :=
    rawRead_rawWrite_other _ _ (by decide)
  unfold pressButtons requestInterrupt
  dsimp only
  rw [kept]
  split
  · exact rawRead_rawWrite_same _ _ _
  · exact kept

theorem pressButtons_eq (b : Byte) (s : Board) :
    pressButtons b s = { s with buttons := b, mem := (pressButtons b s).mem } := by
  unfold pressButtons
  dsimp only
  split <;> rfl

/-- Settles O51: the move is P1's new lines and, when one of them fell, the request and the end of a stop. -/
theorem buttonsDriveTheJoypadLines : Obligations.ButtonsDriveTheJoypadLines := by
  intro s b t old fell
  have hfell : lineFalls b s.board = true ↔ fell := lineFalls_iff b s.board
  have hctl : t.ctl = { s.ctl with stopped := s.ctl.stopped && !lineFalls b s.board } := rfl
  have hif : rawRead t.board Io.if_ = _ := pressButtons_if b s.board
  refine ⟨rfl, rfl, rfl, pressButtons_eq b s.board, fun n hn => ?_, fun h => ?_, fun h => ?_, fun a hne1 hne2 => ?_⟩
  · exact (congrArg (BitVec.getLsbD · n) (rawRead_pressButtons_p1 b s.board)).trans (p1Value_getLsbD old b hn)
  · rw [hctl, hfell.mpr h, Bool.not_true, Bool.and_false]
    rw [if_pos (hfell.mpr h)] at hif
    exact ⟨hif, rfl⟩
  · have hno := Bool.eq_false_iff.mpr (mt hfell.mp h)
    rw [hctl, hno, Bool.not_false, Bool.and_true]
    rw [hno] at hif
    exact ⟨hif, rfl⟩
  · exact (touches_pressButtons b s.board).bytes a (List.not_mem_cons_of_ne_of_not_mem hne1 (by simpa using hne2))

end Sys2Proof.Machine
end

section
/-! The exceptions family (spec/60_exceptions.md), the mixer: what a channel puts out and the range of a sample (R408, R414
to R416, R422, R430). -/

namespace Sys2Proof.Machine

/-- A channel's digital output has four bits. -/
theorem digitalOutput_le (s : Board) (ch : Chan) : digitalOutput s ch ≤ 15 := by
  have vol (v : BitVec 4) (p : Prop) [Decidable p] : (if p then v.toNat else 0) ≤ 15 := by
    split
    · exact Nat.le_of_lt_succ v.isLt
    · exact Nat.zero_le _
  unfold digitalOutput
  split
  · cases ch <;> dsimp only
    case one | two => exact vol _ _
    case three => exact (Nat.shiftRight_le _ _).trans (Nat.le_of_lt_succ (waveSample s _).isLt)
    case four =>
      split
      · exact Nat.zero_le _
      · exact Nat.le_of_lt_succ s.apu.env4.vol.isLt
  · exact Nat.zero_le _

theorem analogOutput15_bounds (s : Board) (ch : Chan) : -15 ≤ analogOutput15 s ch ∧ analogOutput15 s ch ≤ 15 := by
  have hd := digitalOutput_le s ch
  unfold analogOutput15
  split <;> omega

/-- Four channels of at most 15, at most eight times (R430). -/
theorem mixSide_bounds (s : Board) (routes : BitVec 4) (volume : BitVec 3) :
    -480 ≤ mixSide s routes volume ∧ mixSide s routes volume ≤ 480 := by
  have part (ch : Chan) : -15 ≤ (if routes.getLsbD ch.bit = true then analogOutput15 s ch else 0) ∧
      (if routes.getLsbD ch.bit = true then analogOutput15 s ch else 0) ≤ 15 := by
    split
    · exact analogOutput15_bounds s ch
    · decide
  have hv := volume.isLt
  have h1 := part .one; have h2 := part .two; have h3 := part .three; have h4 := part .four
  unfold mixSide
  dsimp only
  constructor <;> nlinarith

theorem currentSample_off {s : Board} (h : apuPowered s = false) : currentSample s = ⟨0, 0⟩ :=
  if_neg (ne_true_of_eq_false h)

theorem currentSample_on {s : Board} (h : apuPowered s = true) :
    currentSample s =
      { left := mixSide s ((rawRead s Io.nr51).extractLsb' 4 4) ((rawRead s Io.nr50).extractLsb' 4 3),
        right := mixSide s ((rawRead s Io.nr51).extractLsb' 0 4) ((rawRead s Io.nr50).extractLsb' 0 3) } :=
  if_pos h

/-- Settles O50: with the power on both sides are a mix, with the power off both are 0. -/
theorem samplesStayInRange : Obligations.SamplesStayInRange := by
  intro s
  cases hp : apuPowered s
  · rw [currentSample_off hp]
    exact ⟨by decide, by decide, by decide, by decide, fun _ => rfl⟩
  · rw [currentSample_on hp]
    obtain ⟨hl1, hl2⟩ := mixSide_bounds s ((rawRead s Io.nr51).extractLsb' 4 4) ((rawRead s Io.nr50).extractLsb' 4 3)
    obtain ⟨hr1, hr2⟩ := mixSide_bounds s ((rawRead s Io.nr51).extractLsb' 0 4) ((rawRead s Io.nr50).extractLsb' 0 3)
    exact ⟨hl1, hl2, hr1, hr2, fun hoff => absurd (hp.symm.trans hoff) (by decide)⟩

end Sys2Proof.Machine
end

section
/-! The exceptions family (spec/60_exceptions.md), a line of the picture: the sprites found, the pixels and the row they
make (R361, R365 to R367, R380 to R386). -/

namespace Sys2Proof.Machine

/-! ## The OAM search (R380) -/

/-- The first ten of a rising list that qualify: one that is left out is beyond ten that are not. -/
theorem take_filter_range_complete {p : Nat → Bool} {k m n : Nat} (hk : k < m) (hp : p k = true)
    (hout : k ∉ ((List.range m).filter p).take n) :
    (((List.range m).filter p).take n).length = n ∧ ∀ j ∈ ((List.range m).filter p).take n, j < k := by
  have hrising : ((List.range m).filter p).Pairwise (· < ·) := List.pairwise_lt_range.filter p
  have hmem : k ∈ (List.range m).filter p := List.mem_filter.mpr ⟨List.mem_range.mpr hk, hp⟩
  rw [← List.take_append_drop n ((List.range m).filter p)] at hmem hrising
  have hdrop : k ∈ ((List.range m).filter p).drop n := (List.mem_append.mp hmem).resolve_left hout
  refine ⟨?_, fun j hj => (List.pairwise_append.mp hrising).2.2 j hj k hdrop⟩
  have hlen := List.length_pos_of_mem hdrop
  rw [List.length_drop] at hlen
  rw [List.length_take]
  omega

theorem spriteOnLine_iff (s : Board) (ly k : Nat) :
    spriteOnLine s ly k = true ↔
      (s.byteAt (0xFE00 + 4 * k)).toNat ≤ ly + 16 ∧
      ly + 16 < (s.byteAt (0xFE00 + 4 * k)).toNat + (if (rawRead s 0xFF40).getLsbD 2 = true then 16 else 8) := by
  simp [spriteOnLine, oamByte, spriteHeight, lcdcBit]

/-- Settles O47: the search filters the rising list of all entries and cuts it off at ten. -/
theorem oamSearchTakesTheFirstTen : Obligations.OamSearchTakesTheFirstTen := by
  intro s ly covers list
  have hcovers (k : Nat) : spriteOnLine s ly k = true ↔ covers k := spriteOnLine_iff s ly k
  obtain ⟨hten, hforty⟩ := oamSearch_bounds s ly
  refine ⟨(List.pairwise_lt_range.filter _).sublist (List.take_sublist _ _), hten, fun k hk => ⟨hforty k hk, ?_⟩,
    fun k hk hc hout => take_filter_range_complete hk ((hcovers k).mpr hc) hout⟩
  exact (hcovers k).mp (List.mem_filter.mp (List.mem_of_mem_take hk)).2

/-! ## Colours (R365, R367, R382) -/

/-- Bit `n` as a number. -/
theorem getLsbD_eq_decide_div (v : Byte) (n : Nat) : v.getLsbD n = decide (v.toNat / 2 ^ n % 2 = 1) :=
  Nat.testBit_eq_decide_div_mod_eq

/-- The colour index as a number (R367). -/
theorem colourIndex_eq (lo hi : Byte) (bit : Nat) :
    colourIndex lo hi bit = BitVec.ofNat 2 (2 * (hi.toNat / 2 ^ bit % 2) + lo.toNat / 2 ^ bit % 2) := by
  rw [colourIndex, getLsbD_eq_decide_div, getLsbD_eq_decide_div]
  rcases Nat.mod_two_eq_zero_or_one (hi.toNat / 2 ^ bit) with hhi | hhi <;>
    rcases Nat.mod_two_eq_zero_or_one (lo.toNat / 2 ^ bit) with hlo | hlo <;> rw [hhi, hlo] <;> rfl

/-- The shade as a number: two bits of the palette per index (R365). -/
theorem shadeOf_eq (palette : Byte) (i : BitVec 2) : shadeOf palette i = BitVec.ofNat 2 (palette.toNat / 4 ^ i.toNat) := by
  have hpow : 4 ^ i.toNat = 2 ^ (2 * i.toNat) := (Nat.pow_mul 2 2 i.toNat).symm
  apply BitVec.eq_of_toNat_eq
  rw [shadeOf, BitVec.extractLsb'_toNat, BitVec.toNat_ofNat, Nat.shiftRight_eq_div_pow, hpow]

/-- The two addressing modes of the background's tiles as numbers (R367). -/
theorem tileAddress_eq (unsignedMode : Bool) (idx : Byte) :
    tileAddress unsignedMode idx = if unsignedMode = true then 0x8000 + 16 * idx.toNat
      else if idx.toNat < 128 then 0x9000 + 16 * idx.toNat else 0x8000 + 16 * idx.toNat := by
  have hidx := idx.isLt
  unfold tileAddress
  split_ifs <;> omega

theorem mapPixel_eq (s : Board) (map px py : Nat) :
    mapPixel s map px py =
      colourIndex (s.byteAt (tileAddress (lcdcBit s 4) (s.byteAt (map + 32 * (py / 8) + px / 8)) + 2 * (py % 8)))
        (s.byteAt (tileAddress (lcdcBit s 4) (s.byteAt (map + 32 * (py / 8) + px / 8)) + 2 * (py % 8) + 1))
        (7 - px % 8) := rfl

/-! ## Background and window (R382, R383) -/

section
variable {s : Board} {ly x : Nat}

theorem windowOnLine_iff :
    windowOnLine s ly = true ↔
      lcdcBit s 5 = true ∧ lcdcBit s 0 = true ∧ (rawRead s Io.wy).toNat ≤ ly ∧ (rawRead s Io.wx).toNat ≤ 166 := by
  simp [windowOnLine, and_assoc]

theorem backPixel_off (h : lcdcBit s 0 = false) : backPixel s ly x = 0 := by
  unfold backPixel
  rw [h]
  rfl

theorem backPixel_window (hline : windowOnLine s ly = true) (hx : (rawRead s Io.wx).toNat ≤ x + 7) :
    backPixel s ly x = windowPixel s x := by
  have h0 : lcdcBit s 0 = true := (windowOnLine_iff.mp hline).2.1
  unfold backPixel
  rw [h0, hline, decide_eq_true hx]
  rfl

theorem backPixel_background (h0 : lcdcBit s 0 = true)
    (h : ¬ (windowOnLine s ly = true ∧ (rawRead s Io.wx).toNat ≤ x + 7)) : backPixel s ly x = backgroundPixel s ly x := by
  have hoff : (windowOnLine s ly && decide ((rawRead s Io.wx).toNat ≤ x + 7)) = false := by simpa using h
  unfold backPixel
  rw [h0, hoff]
  rfl

end

/-! ## The pixel of one sprite (R384) -/

theorem evenTile_toNat : ∀ tile : Byte, (tile &&& 0xFE).toNat = tile.toNat - tile.toNat % 2 := by decide

theorem oddTile_toNat : ∀ tile : Byte, (tile &&& 0xFE ||| 1).toNat = tile.toNat - tile.toNat % 2 + 1 := by decide

/-- The address of a sprite's row `r`: the two tiles of a tall sprite stand one after the other. -/
theorem spriteRow_eq (tile : Byte) {h r : Nat} (hh : h = 8 ∨ h = 16) (hr : r < h) :
    0x8000 + 16 * (if h = 8 then tile else (tile &&& 0xFE) ||| (if (r : Int) ≥ 8 then 1 else 0)).toNat +
        2 * ((r : Int) % 8).toNat =
      0x8000 + 16 * (if h = 8 then tile.toNat else tile.toNat - tile.toNat % 2) + 2 * r := by
  have hmod : ((r : Int) % 8).toNat = r % 8 := by omega
  rw [hmod]
  rcases hh with rfl | rfl
  · rw [if_pos rfl, if_pos rfl, Nat.mod_eq_of_lt hr]
  · have tall : ¬ (16 : Nat) = 8 := by decide
    rw [if_neg tall, if_neg tall]
    by_cases h8 : 8 ≤ r
    · have lower : (r : Int) ≥ 8 := by omega
      rw [if_pos lower, oddTile_toNat]
      omega
    · have upper : ¬ (r : Int) ≥ 8 := by omega
      have heven : (tile &&& 0xFE ||| 0).toNat = tile.toNat - tile.toNat % 2 := by
        rw [← evenTile_toNat]
        exact congrArg BitVec.toNat BitVec.or_zero
      rw [if_neg upper, heven]
      omega

section
variable {s : Board} {ly x k : Nat}

theorem spriteHeight_cases (s : Board) : spriteHeight s = 8 ∨ spriteHeight s = 16 := by
  unfold spriteHeight
  split
  · exact .inr rfl
  · exact .inl rfl

theorem spritePixel_off (h : ¬ (x < (oamByte s k 1).toNat ∧ (oamByte s k 1).toNat ≤ x + 8)) : spritePixel s ly x k = none := by
  unfold spritePixel
  exact if_neg (by omega)

/-- The row of the sprite the line shows, from the top of the picture in OAM (R384). -/
def spriteRow (s : Board) (ly k : Nat) : Nat :=
  if (oamByte s k 3).getLsbD 6 = true then (oamByte s k 0).toNat + spriteHeight s - 17 - ly
  else ly + 16 - (oamByte s k 0).toNat

/-- The column of the sprite the pixel shows, from the left of the picture in OAM (R384). -/
def spriteColumn (s : Board) (x k : Nat) : Nat :=
  if (oamByte s k 3).getLsbD 5 = true then (oamByte s k 1).toNat - 1 - x else x + 8 - (oamByte s k 1).toNat

/-- The colour index of a sprite that covers the line, in natural numbers. -/
def spriteIndex (s : Board) (ly x k : Nat) : BitVec 2 :=
  let tile := if spriteHeight s = 8 then (oamByte s k 2).toNat else (oamByte s k 2).toNat - (oamByte s k 2).toNat % 2
  let row := 0x8000 + 16 * tile + 2 * spriteRow s ly k
  colourIndex (s.byteAt row) (s.byteAt (row + 1)) (7 - spriteColumn s x k)

/-- On a line the sprite covers, the exact row of R384 is the natural one, and lies in the sprite. -/
theorem spriteRow_spec (h1 : (oamByte s k 0).toNat ≤ ly + 16) (h2 : ly + 16 < (oamByte s k 0).toNat + spriteHeight s) :
    ((if (oamByte s k 3).getLsbD 6 = true then (spriteHeight s : Int) - 1 - ((ly : Int) + 16 - (oamByte s k 0).toNat)
      else (ly : Int) + 16 - (oamByte s k 0).toNat) = (spriteRow s ly k : Int)) ∧ spriteRow s ly k < spriteHeight s := by
  unfold spriteRow
  split <;> omega

theorem spriteColumn_spec (h1 : x < (oamByte s k 1).toNat) (h2 : (oamByte s k 1).toNat ≤ x + 8) :
    (if (oamByte s k 3).getLsbD 5 = true then 7 - (x + 8 - (oamByte s k 1).toNat) else x + 8 - (oamByte s k 1).toNat) =
      spriteColumn s x k := by
  unfold spriteColumn
  split <;> omega

theorem spritePixel_on (hx1 : x < (oamByte s k 1).toNat) (hx2 : (oamByte s k 1).toNat ≤ x + 8)
    (hy1 : (oamByte s k 0).toNat ≤ ly + 16) (hy2 : ly + 16 < (oamByte s k 0).toNat + spriteHeight s) :
    spritePixel s ly x k =
      if spriteIndex s ly x k = 0 then none else some ⟨oamByte s k 1, spriteIndex s ly x k, oamByte s k 3⟩ := by
  obtain ⟨hrow, hlt⟩ := spriteRow_spec hy1 hy2
  unfold spritePixel
  dsimp only
  rw [if_pos (by omega), spriteColumn_spec hx1 hx2, hrow, spriteRow_eq _ (spriteHeight_cases s) hlt]
  rfl

end

/-! ## The sprite that wins (R384) -/

/-- `p` stands at `n` in the list, has the smallest X, and no equal one stands before it. -/
def WinsAt (ps : List SpritePixel) (n : Nat) (p : SpritePixel) : Prop :=
  ps[n]? = some p ∧ (∀ q ∈ ps, p.x ≤ q.x) ∧ ∀ m q, m < n → ps[m]? = some q → p.x < q.x

/-- One more candidate at the end wins if its X is smaller. -/
theorem WinsAt.append {ps : List SpritePixel} {n : Nat} {p : SpritePixel} (h : WinsAt ps n p) (q : SpritePixel) :
    ∃ m, WinsAt (ps ++ [q]) m (betterSprite p q) := by
  obtain ⟨hat, hmin, hfirst⟩ := h
  have hn : n < ps.length := (List.getElem?_eq_some_iff.mp hat).1
  by_cases hq : q.x < p.x
  · have hbetter : betterSprite p q = q := if_pos hq
    rw [hbetter]
    refine ⟨ps.length, List.getElem?_concat_length, fun r hr => ?_, fun m r hm hr => ?_⟩
    · rcases List.mem_append.mp hr with hr | hr
      · exact BitVec.le_trans (BitVec.le_of_lt hq) (hmin r hr)
      · rw [List.mem_singleton.mp hr]
        exact BitVec.le_refl _
    · rw [List.getElem?_append_left hm] at hr
      exact Nat.lt_of_lt_of_le hq (hmin r (List.mem_of_getElem? hr))
  · have hbetter : betterSprite p q = p := if_neg hq
    rw [hbetter]
    refine ⟨n, (List.getElem?_append_left hn).trans hat, fun r hr => ?_, fun m r hm hr => ?_⟩
    · rcases List.mem_append.mp hr with hr | hr
      · exact hmin r hr
      · rw [List.mem_singleton.mp hr]
        exact BitVec.not_lt.mp hq
    · rw [List.getElem?_append_left (hm.trans hn)] at hr
      exact hfirst m r hm hr

theorem exists_winsAt_foldl (p : SpritePixel) (ps : List SpritePixel) : ∃ n, WinsAt (p :: ps) n (ps.foldl betterSprite p) := by
  induction ps using List.reverseRecOn with
  | nil =>
    refine ⟨0, rfl, fun q hq => ?_, fun m q hm => absurd hm (Nat.not_lt_zero m)⟩
    rw [List.mem_singleton.mp hq]
    exact BitVec.le_refl _
  | append_singleton ps q ih =>
    obtain ⟨n, h⟩ := ih
    rw [List.foldl_append]
    exact h.append q

section
variable {s : Board} {ly x : Nat}

theorem winningSprite_none (h : lcdcBit s 1 = false ∨ s.ppu.spriteList.filterMap (spritePixel s ly x) = []) :
    winningSprite s ly x = none := by
  unfold winningSprite
  rcases h with h | h
  · rw [h]
    rfl
  · rw [h]
    exact ite_self _

theorem winningSprite_some (h1 : lcdcBit s 1 = true) (h : s.ppu.spriteList.filterMap (spritePixel s ly x) ≠ []) :
    ∃ n p, WinsAt (s.ppu.spriteList.filterMap (spritePixel s ly x)) n p ∧ winningSprite s ly x = some p := by
  obtain ⟨p, ps, hps⟩ := List.exists_cons_of_ne_nil h
  obtain ⟨n, hn⟩ := exists_winsAt_foldl p ps
  refine ⟨n, _, hps ▸ hn, ?_⟩
  unfold winningSprite
  rw [if_pos h1, hps]

/-! ## Mixing and the row (R385, R386) -/

theorem pixelShade_back (h : winningSprite s ly x = none) : pixelShade s ly x = backShade s (backPixel s ly x) := by
  simp only [pixelShade, h]

theorem pixelShade_sprite {p : SpritePixel} (h : winningSprite s ly x = some p) :
    pixelShade s ly x = if p.attr.getLsbD 7 = true ∧ backPixel s ly x ≠ 0 then backShade s (backPixel s ly x)
      else shadeOf (rawRead s (if p.attr.getLsbD 4 = true then Io.obp1 else Io.obp0)) p.index := by
  simp only [pixelShade, h]

theorem renderLine_winLine :
    (renderLine s ly).ppu.winLine = if windowOnLine s ly = true then s.ppu.winLine + 1 else s.ppu.winLine := rfl

theorem renderLine_row (h : ly < s.ppu.framebuffer.length) :
    (renderLine s ly).ppu.framebuffer[ly]? = some ((List.range 160).map (pixelShade s ly)) :=
  List.getElem?_set_self h

theorem renderLine_other_row {j : Nat} (h : j ≠ ly) : (renderLine s ly).ppu.framebuffer[j]? = s.ppu.framebuffer[j]? :=
  List.getElem?_set_ne h.symm

end

/-- Settles O48: each clause is one of the steps above, in the numbers of the spec. -/
theorem spritePriority : Obligations.SpritePriority := by
  intro s ly x reg lcdc indexAt mapIndex shade windowHere back backShade
  have hindex (row bit : Nat) : colourIndex (s.byteAt row) (s.byteAt (row + 1)) bit = indexAt row bit := colourIndex_eq _ _ _
  have hmap (map px py : Nat) : mapPixel s map px py = mapIndex map px py := by
    rw [mapPixel_eq, hindex, tileAddress_eq]
    rfl
  have hshade (palette : Word) (i : BitVec 2) : shadeOf (rawRead s palette) i = shade palette i := shadeOf_eq _ _
  have hwindow : windowOnLine s ly = true ↔ windowHere := windowOnLine_iff
  have hback : Machine.backShade s back = backShade := by
    unfold Machine.backShade
    rw [hshade]
    rfl
  refine ⟨hmap _ _ _, hmap _ _ _, backPixel_off, fun h hx => backPixel_window (hwindow.mpr h) hx,
    fun h0 h => backPixel_background h0 (by rwa [hwindow]), fun k => ⟨spritePixel_off, fun hx1 hx2 hy1 hy2 => ?_⟩,
    ⟨winningSprite_none, fun h1 h => ?_⟩, fun h => (pixelShade_back h).trans hback, fun p h => ?_, ?_⟩
  · have hon := spritePixel_on hx1 hx2 hy1 hy2
    unfold spriteIndex at hon
    dsimp only at hon
    rw [hindex] at hon
    exact hon
  · obtain ⟨n, p, ⟨hat, hmin, hfirst⟩, hwin⟩ := winningSprite_some h1 h
    exact ⟨n, p, hat, hwin, hmin, hfirst⟩
  · rw [pixelShade_sprite h, hback, hshade]
  · refine ⟨fun h => ?_, fun h => ?_, rfl, List.length_set, fun j => renderLine_other_row, fun hly =>
      ⟨_, renderLine_row hly, ?_, fun hx => ?_⟩⟩
    · rw [renderLine_winLine, if_pos (hwindow.mpr h)]
    · rw [renderLine_winLine, if_neg (mt hwindow.mp h)]
    · rw [List.length_map, List.length_range]
    · rw [List.getElem?_map, List.getElem?_range hx]
      rfl

end Sys2Proof.Machine
end

section
/-! The exceptions family (spec/60_exceptions.md), the PPU: one equation for each way a mode ends (R372), what each
leaves in LY, STAT and IF (R373 to R375), and the agreement of LY with the mode (R360, R376 to R378). -/

namespace Sys2Proof.Machine

/-! ## Going to a line (R375) -/

/-- A write of LY by the PPU, with the line compare that follows it at once (R372). -/
def goToLine (line : Byte) (s : Board) : Board := lycCompare (rawWrite s Io.ly line)

@[simp] theorem goToLine_ppu (line : Byte) (s : Board) : (goToLine line s).ppu = s.ppu := lycCompare_ppu _

@[simp] theorem goToLine_ly (line : Byte) (s : Board) : rawRead (goToLine line s) Io.ly = line :=
  (lycCompare_ly _).trans (rawRead_rawWrite_same s Io.ly line)

/-- The window's line counter starts again (R372). -/
def resetWindow (s : Board) : Board := { s with ppu := { s.ppu with winLine := 0 } }

@[simp] theorem resetWindow_rawRead (s : Board) (a : Word) : rawRead (resetWindow s) a = rawRead s a := rfl

@[simp] theorem raiseVBlank_ly (s : Board) : rawRead (raiseVBlank s) Io.ly = rawRead s Io.ly :=
  (touches_raiseVBlank s).bytes _ (by simp)

@[simp] theorem frameDone_rawRead (s : Board) (a : Word) : rawRead (frameDone s) a = rawRead s a := rfl

@[simp] theorem renderLine_rawRead (s : Board) (ly : Nat) (a : Word) : rawRead (renderLine s ly) a = rawRead s a := rfl

/-! ## The ends of the four modes (R372) -/

section
variable {s : Board}

theorem ppuModeEnd_oamSearch (h : s.ppu.mode = .oamSearch) :
    ppuModeEnd s =
      setMode .transfer { s with ppu := { s.ppu with spriteList := oamSearch s (rawRead s Io.ly).toNat } } := by
  simp only [ppuModeEnd, h]

theorem ppuModeEnd_transfer (h : s.ppu.mode = .transfer) :
    ppuModeEnd s = setMode .hblank (renderLine s (rawRead s Io.ly).toNat) := by
  simp only [ppuModeEnd, h]

/-- The last visible line is over: V-blank begins. -/
theorem ppuModeEnd_hblank_last (h : s.ppu.mode = .hblank) (hly : rawRead s Io.ly = 143) :
    ppuModeEnd s = frameDone (raiseVBlank (setMode .vblank (goToLine 144 s))) := by
  have next : rawRead s Io.ly + 1 = 144 := by rw [hly]; rfl
  simp only [ppuModeEnd, h, next, lycCompare_ly, rawRead_rawWrite_same, if_true]
  rfl

theorem ppuModeEnd_hblank_next (h : s.ppu.mode = .hblank) (hly : rawRead s Io.ly ≠ 143) :
    ppuModeEnd s = setMode .oamSearch (goToLine (rawRead s Io.ly + 1) s) := by
  have next : rawRead s Io.ly + 1 ≠ 144 := by bv_omega
  simp only [ppuModeEnd, h, lycCompare_ly, rawRead_rawWrite_same, if_neg next]
  rfl

/-- V-blank is over: the next frame begins. -/
theorem ppuModeEnd_vblank_last (h : s.ppu.mode = .vblank) (hly : rawRead s Io.ly = 153 ∨ rawRead s Io.ly = 0) :
    ppuModeEnd s = setMode .oamSearch (goToLine 0 (resetWindow s)) := by
  simp only [ppuModeEnd, h, if_pos hly]
  rfl

theorem ppuModeEnd_vblank_next (h : s.ppu.mode = .vblank) (hly : ¬ (rawRead s Io.ly = 153 ∨ rawRead s Io.ly = 0)) :
    ppuModeEnd s = goToLine (rawRead s Io.ly + 1) s := by
  simp only [ppuModeEnd, h, if_neg hly]
  rfl

end

/-! ## What the end of a mode leaves in IF (R373 to R375) -/

/-- The STAT request, if there is one (R328, R373, R375). -/
def statRequest (b : Bool) : Byte := if b then 0x02 else 0x00

@[simp] theorem or_statRequest_or (v : Byte) (b c : Bool) : v ||| statRequest b ||| statRequest c = v ||| statRequest (b || c) := by
  cases b <;> cases c <;> simp [statRequest, BitVec.or_assoc]

theorem ite_or_statRequest (v : Byte) (b : Bool) : (if b = true then v ||| 0x02 else v) = v ||| statRequest b := by
  cases b <;> simp [statRequest]

/-- Would line `line` request the STAT interrupt by equalling LYC (R375)? -/
def coincides (s : Board) (line : Byte) : Bool := (rawRead s Io.stat).getLsbD 6 && decide (line = rawRead s Io.lyc)

theorem setMode_if_eq (m : PpuMode) (s : Board) :
    rawRead (setMode m s) Io.if_ = rawRead s Io.if_ ||| statRequest (modeRequests m (rawRead s Io.stat)) := by
  rw [setMode_if, ite_or_statRequest]

theorem goToLine_if (line : Byte) (s : Board) :
    rawRead (goToLine line s) Io.if_ = rawRead s Io.if_ ||| statRequest (coincides s line) := by
  have other {a : Word} (h : a ≠ Io.ly) : rawRead (rawWrite s Io.ly line) a = rawRead s a := rawRead_rawWrite_other s line h
  have decision : line = rawRead s Io.lyc ∧ (rawRead s Io.stat).getLsbD 6 = true ↔ coincides s line = true := by
    simp [coincides, and_comm]
  rw [goToLine, lycCompare_if, rawRead_rawWrite_same, other (by decide), other (by decide), other (by decide),
    ← ite_or_statRequest]
  exact if_congr decision rfl rfl

/-- Going to a line leaves the enables of the mode requests. -/
theorem goToLine_modeRequests (m : PpuMode) (line : Byte) (s : Board) :
    modeRequests m (rawRead (goToLine line s) Io.stat) = modeRequests m (rawRead s Io.stat) := by
  rw [goToLine, lycCompare_modeRequests, rawRead_rawWrite_other s line (by decide)]

theorem raiseVBlank_if (s : Board) : rawRead (raiseVBlank s) Io.if_ = rawRead s Io.if_ ||| 0x01 :=
  rawRead_rawWrite_same s _ _

/-! ## Where each end of a mode leads (R372) -/

/-- What the end of a mode leads to: the mode entered, the line, the frames done so far, IF. -/
structure LeadsTo (t : Board) (mode : PpuMode) (line : Byte) (frames : Nat) (requests : Byte) : Prop where
  mode : t.ppu.mode = mode
  line : rawRead t Io.ly = line
  frames : t.ppu.frames = frames
  requests : rawRead t Io.if_ = requests

theorem leadsTo_setMode {s : Board} {line : Byte} {frames : Nat} (m : PpuMode) (hline : rawRead s Io.ly = line)
    (hframes : s.ppu.frames = frames) :
    LeadsTo (setMode m s) m line frames (rawRead s Io.if_ ||| statRequest (modeRequests m (rawRead s Io.stat))) :=
  ⟨by rw [setMode_ppu], (setMode_ly m s).trans hline, by rw [setMode_ppu]; exact hframes, setMode_if_eq m s⟩

/-- A new line and then a mode: one request for both (R373, R375). -/
theorem leadsTo_setMode_goToLine (m : PpuMode) (line : Byte) (s : Board) :
    LeadsTo (setMode m (goToLine line s)) m line s.ppu.frames
      (rawRead s Io.if_ ||| statRequest (coincides s line || modeRequests m (rawRead s Io.stat))) := by
  have h := leadsTo_setMode m (goToLine_ly line s) (congrArg Ppu.frames (goToLine_ppu line s))
  rwa [goToLine_if, goToLine_modeRequests, or_statRequest_or] at h

section
variable {s : Board}

theorem oamSearch_leadsTo (h : s.ppu.mode = .oamSearch) :
    LeadsTo (ppuModeEnd s) .transfer (rawRead s Io.ly) s.ppu.frames (rawRead s Io.if_) := by
  rw [ppuModeEnd_oamSearch h, ← BitVec.or_zero (x := rawRead s Io.if_)]
  exact leadsTo_setMode .transfer rfl rfl

theorem transfer_leadsTo (h : s.ppu.mode = .transfer) :
    LeadsTo (ppuModeEnd s) .hblank (rawRead s Io.ly) s.ppu.frames
      (rawRead s Io.if_ ||| statRequest ((rawRead s Io.stat).getLsbD 3)) := by
  rw [ppuModeEnd_transfer h]
  exact leadsTo_setMode .hblank rfl rfl

theorem hblank_last_leadsTo (h : s.ppu.mode = .hblank) (hly : rawRead s Io.ly = 143) :
    LeadsTo (ppuModeEnd s) .vblank 144 (s.ppu.frames + 1)
      (rawRead s Io.if_ ||| statRequest (coincides s 144 || (rawRead s Io.stat).getLsbD 4) ||| 0x01) := by
  rw [ppuModeEnd_hblank_last h hly]
  obtain ⟨hmode, hline, hframes, hif⟩ := leadsTo_setMode_goToLine .vblank 144 s
  exact ⟨hmode, (raiseVBlank_ly _).trans hline, congrArg (· + 1) hframes, (raiseVBlank_if _).trans (congrArg (· ||| 0x01) hif)⟩

theorem hblank_next_leadsTo (h : s.ppu.mode = .hblank) (hly : rawRead s Io.ly ≠ 143) :
    LeadsTo (ppuModeEnd s) .oamSearch (rawRead s Io.ly + 1) s.ppu.frames
      (rawRead s Io.if_ ||| statRequest (coincides s (rawRead s Io.ly + 1) || (rawRead s Io.stat).getLsbD 5)) := by
  rw [ppuModeEnd_hblank_next h hly]
  exact leadsTo_setMode_goToLine .oamSearch _ s

theorem vblank_last_leadsTo (h : s.ppu.mode = .vblank) (hly : rawRead s Io.ly = 153 ∨ rawRead s Io.ly = 0) :
    LeadsTo (ppuModeEnd s) .oamSearch 0 s.ppu.frames
      (rawRead s Io.if_ ||| statRequest (coincides s 0 || (rawRead s Io.stat).getLsbD 5)) := by
  rw [ppuModeEnd_vblank_last h hly]
  exact leadsTo_setMode_goToLine .oamSearch 0 (resetWindow s)

theorem vblank_last_winLine (h : s.ppu.mode = .vblank) (hly : rawRead s Io.ly = 153 ∨ rawRead s Io.ly = 0) :
    (ppuModeEnd s).ppu.winLine = 0 := by
  rw [ppuModeEnd_vblank_last h hly, setMode_ppu, goToLine_ppu]
  rfl

theorem vblank_next_leadsTo (h : s.ppu.mode = .vblank) (hly : ¬ (rawRead s Io.ly = 153 ∨ rawRead s Io.ly = 0)) :
    LeadsTo (ppuModeEnd s) .vblank (rawRead s Io.ly + 1) s.ppu.frames
      (rawRead s Io.if_ ||| statRequest (coincides s (rawRead s Io.ly + 1))) := by
  rw [ppuModeEnd_vblank_next h hly]
  exact ⟨by rw [goToLine_ppu, h], goToLine_ly _ s, by rw [goToLine_ppu], goToLine_if _ s⟩

end

/-! ## LY and the mode (R360, R364, R370, R372, R376, R378) -/

/-- The lines a mode can be in while the LCD is enabled. -/
def LineFits (m : PpuMode) (ly : Byte) : Prop :=
  match m with
  | .vblank => ly = 0 ∨ 144 ≤ ly ∧ ly ≤ 153
  | .hblank | .oamSearch | .transfer => ly ≤ 143

theorem lineOk_of_lcd_on {s : Board} (h : lcdcBit s 7 = true) : LineOk s ↔ LineFits s.ppu.mode (rawRead s Io.ly) := by
  unfold LineOk
  rw [if_pos h]
  cases s.ppu.mode <;> exact Iff.rfl

theorem lineOk_of_lcd_off {s : Board} (h : lcdcBit s 7 = false) : LineOk s ↔ rawRead s Io.ly = 0 ∧ s.ppu.mode = .hblank := by
  unfold LineOk
  rw [if_neg (ne_true_of_eq_false h)]

theorem lineOk_dependsOn : DependsOn LineOk [Io.lcdc, Io.ly] false true false := by
  intro s t hl _ hv _ _ _ hs
  unfold LineOk lcdcBit
  rw [hl Io.lcdc (by simp), hl Io.ly (by simp), hv rfl]
  exact hs

/-- Each end of a mode goes to a line of the mode entered. -/
theorem lineFits_ppuModeEnd {s : Board} (h : LineFits s.ppu.mode (rawRead s Io.ly)) :
    LineFits (ppuModeEnd s).ppu.mode (rawRead (ppuModeEnd s) Io.ly) := by
  have fits {m : PpuMode} {line : Byte} {frames : Nat} {requests : Byte} (k : LeadsTo (ppuModeEnd s) m line frames requests)
      (hline : LineFits m line) : LineFits (ppuModeEnd s).ppu.mode (rawRead (ppuModeEnd s) Io.ly) := by
    rw [k.mode, k.line]
    exact hline
  cases hm : s.ppu.mode <;> rw [hm] at h <;> dsimp only [LineFits] at h
  case oamSearch => exact fits (oamSearch_leadsTo hm) h
  case transfer => exact fits (transfer_leadsTo hm) h
  case hblank =>
    by_cases hly : rawRead s Io.ly = 143
    · exact fits (hblank_last_leadsTo hm hly) (.inr (by decide))
    · refine fits (hblank_next_leadsTo hm hly) ?_
      dsimp only [LineFits]
      bv_omega
  case vblank =>
    by_cases hly : rawRead s Io.ly = 153 ∨ rawRead s Io.ly = 0
    · exact fits (vblank_last_leadsTo hm hly) (by decide : (0 : Byte) ≤ 143)
    · refine fits (vblank_next_leadsTo hm hly) (.inr ?_)
      bv_omega

/-- The loop keeps line and mode in step; while the LCD is off neither moves. -/
theorem lineOk_ppuStep {s : Board} (n : Nat) (h : LineOk s) : LineOk (ppuStep n s) := by
  have lcd : lcdcBit (ppuStep n s) 7 = lcdcBit s 7 := by
    unfold lcdcBit
    rw [(touches_ppuStep n s).bytes Io.lcdc (by simp)]
  cases hlcd : lcdcBit s 7
  · rw [lineOk_of_lcd_off hlcd] at h
    rw [lineOk_of_lcd_off (lcd.trans hlcd), ppuStep, if_neg (ne_true_of_eq_false hlcd)]
    refine ⟨((touches_ppuOffStep n s).bytes Io.ly (by simp)).trans h.1, ?_⟩
    unfold ppuOffStep
    dsimp only
    split <;> exact h.2
  · rw [lineOk_of_lcd_on hlcd] at h
    rw [lineOk_of_lcd_on (lcd.trans hlcd), ppuStep, if_pos hlcd]
    exact ppuLoop_keeps (P := fun t => LineFits t.ppu.mode (rawRead t Io.ly)) (fun _ _ => id)
      (fun _ => lineFits_ppuModeEnd) _ h

/-- Either switch of the LCD goes to line 0, in the mode that belongs to it (R376, R377). -/
theorem lineOk_writeLcdc {s : Board} (v : Byte) (h : LineOk s) : LineOk (writeLcdc v s) := by
  have lcd : lcdcBit (writeLcdc v s) 7 = v.getLsbD 7 := by rw [lcdcBit, writeLcdc_lcdc]
  cases hold : (rawRead s Io.lcdc).getLsbD 7 <;> cases hnew : v.getLsbD 7
  case true.false =>
    rw [lineOk_of_lcd_off (lcd.trans hnew), writeLcdc_down hold hnew]
    exact ⟨ppuDisable_ly _, rfl⟩
  case false.true =>
    rw [lineOk_of_lcd_on (lcd.trans hnew), writeLcdc_up hold hnew, ppuEnable_ly, ppuEnable_eq, lycCompare_ppu]
    exact (by decide : (0 : Byte) ≤ 143)
  case false.false =>
    rw [lineOk_of_lcd_off (lcd.trans hnew), writeLcdc_same (hold.trans hnew.symm), rawRead_rawWrite_other s v (by decide)]
    exact (lineOk_of_lcd_off hold).mp h
  case true.true =>
    rw [lineOk_of_lcd_on (lcd.trans hnew), writeLcdc_same (hold.trans hnew.symm), rawRead_rawWrite_other s v (by decide)]
    exact (lineOk_of_lcd_on hold).mp h

theorem lineOk_ioWrite {s : Board} (a : Word) (v : Byte) (h : LineOk s) : LineOk (ioWrite a v s) := by
  by_cases h1 : a = Io.lcdc
  · subst h1; exact lineOk_writeLcdc v h
  by_cases h2 : a = Io.ly
  · subst h2; exact h
  have hlcdc : Io.lcdc ∉ ioReach a := not_mem_ioReach h1 (fun _ => by decide) (fun e => absurd e h1) (fun _ => by decide)
  have hly : Io.ly ∉ ioReach a := not_mem_ioReach h2 (fun _ => by decide) (fun e => absurd e h1) (fun _ => by decide)
  refine lineOk_dependsOn.ioWrite v h (by simp) ?_ (by simp) (fun _ => h1) (by simp)
  simp only [List.forall_mem_cons]
  exact ⟨hlcdc, hly, List.forall_mem_nil _⟩

theorem kept_lineOk : Kept LineOk := by
  refine Kept.of_io (fun s t same h => lineOk_dependsOn.sameIo (by simp) same h)
    (fun s a v h => lineOk_ioWrite a v h) (fun s b h => ?_)
    (fun s n h => lineOk_dependsOn.touches (touches_timerStep n s) h) (fun s n h => lineOk_ppuStep n h)
    (fun s n h => lineOk_dependsOn.touches (touches_apuStep n s) h)
  exact lineOk_dependsOn.touches (touches_pressButtons b s) (s := { s with buttons := b }) h

/-- Settles O56: LY and the mode are the PPU's alone; it moves them together at a mode's end and at a switch of the LCD. -/
theorem everyStepKeepsLineAndMode : Obligations.EveryStepKeepsLineAndMode :=
  fun _ _ hs h => kept_lineOk.step h hs

/-! ## What the end of a mode leaves in STAT (R362) -/

/-- STAT[7:3], which only a program writes (R362). -/
def statEnables (s : Board) : Byte := rawRead s Io.stat &&& 0xF8

theorem statEnables_setMode (m : PpuMode) (s : Board) : statEnables (setMode m s) = statEnables s := by
  rw [statEnables, setMode_stat, BitVec.and_or_distrib_right, BitVec.and_assoc]
  cases m <;> simp [PpuMode.code, statEnables]

theorem statEnables_goToLine (line : Byte) (s : Board) : statEnables (goToLine line s) = statEnables s := by
  rw [statEnables, goToLine, lycCompare_stat, rawRead_rawWrite_other (b := Io.stat) s line (by decide)]
  split
  · rw [BitVec.and_or_distrib_right]; simp [statEnables]
  · rw [BitVec.and_assoc]; rfl

theorem statEnables_raiseVBlank (s : Board) : statEnables (raiseVBlank s) = statEnables s :=
  congrArg (· &&& 0xF8) ((touches_raiseVBlank s).bytes Io.stat (by simp))

theorem statEnables_ppuModeEnd (s : Board) : statEnables (ppuModeEnd s) = statEnables s := by
  cases hm : s.ppu.mode
  case oamSearch => rw [ppuModeEnd_oamSearch hm]; exact statEnables_setMode _ _
  case transfer => rw [ppuModeEnd_transfer hm]; exact statEnables_setMode _ _
  case hblank =>
    by_cases hly : rawRead s Io.ly = 143
    · rw [ppuModeEnd_hblank_last hm hly]
      exact (statEnables_raiseVBlank _).trans ((statEnables_setMode _ _).trans (statEnables_goToLine _ _))
    · rw [ppuModeEnd_hblank_next hm hly, statEnables_setMode, statEnables_goToLine]
  case vblank =>
    by_cases hly : rawRead s Io.ly = 153 ∨ rawRead s Io.ly = 0
    · rw [ppuModeEnd_vblank_last hm hly, statEnables_setMode]
      exact statEnables_goToLine _ _
    · rw [ppuModeEnd_vblank_next hm hly, statEnables_goToLine]

/-- `s` with the accumulator of R372 at `k`. -/
def withAcc (k : Nat) (s : Board) : Board := { s with ppu := { s.ppu with acc := k } }

/-- Settles O46: before the end of the mode a step waits; at its end it makes one of the six ends of a mode. -/
theorem ppuModesFollowOneAnother : Obligations.PpuModesFollowOneAnother := by
  intro s n hlcd hstat t len ly stat requested bit1 coincides
  have hlen : len = s.ppu.mode.length := by
    dsimp only [len]
    cases s.ppu.mode <;> rfl
  rw [hlen]
  refine ⟨fun h => ppuStep_wait hlcd h, fun h1 h2 => ?_⟩
  have ht : t = ppuModeEnd (withAcc (s.ppu.acc + n - s.ppu.mode.length) s) := ppuStep_end hlcd h1 h2
  have hok : StatModeOk t := statModeOk_ppuStep n hstat
  refine ⟨by rw [ht, ppuModeEnd_acc]; rfl, hok, by rw [ht]; exact statEnables_ppuModeEnd _, ?_⟩
  rw [ht]
  generalize s.ppu.acc + n - s.ppu.mode.length = k
  cases hm : s.ppu.mode <;> dsimp only
  case oamSearch =>
    obtain ⟨hmode, hline, hframes, hif⟩ := oamSearch_leadsTo (s := withAcc k s) hm
    exact ⟨hmode, hline, hframes, hif⟩
  case transfer =>
    obtain ⟨hmode, hline, hframes, hif⟩ := transfer_leadsTo (s := withAcc k s) hm
    exact ⟨hmode, hline, hframes, hif⟩
  case hblank =>
    by_cases hly : rawRead s Io.ly = 143
    · obtain ⟨hmode, hline, hframes, hif⟩ := hblank_last_leadsTo (s := withAcc k s) hm hly
      rw [if_pos hly]
      exact ⟨hline.trans (by rw [show ly = 143 from hly]; rfl), hmode, hframes, hif⟩
    · obtain ⟨hmode, hline, hframes, hif⟩ := hblank_next_leadsTo (s := withAcc k s) hm hly
      rw [if_neg hly]
      exact ⟨hline, hmode, hframes, hif⟩
  case vblank =>
    by_cases hly : rawRead s Io.ly = 153 ∨ rawRead s Io.ly = 0
    · obtain ⟨hmode, hline, hframes, hif⟩ := vblank_last_leadsTo (s := withAcc k s) hm hly
      rw [if_pos hly]
      have hwin := vblank_last_winLine (s := withAcc k s) hm hly
      exact ⟨hframes, hline, hmode, hwin, hif⟩
    · obtain ⟨hmode, hline, hframes, hif⟩ := vblank_next_leadsTo (s := withAcc k s) hm hly
      rw [if_neg hly]
      exact ⟨hframes, hline, hmode, hif⟩

end Sys2Proof.Machine
end

section
/-! The exceptions family (spec/60_exceptions.md), the sound channels in numbers: the fields of their registers, the
period, the sweep's target, the digital output (R401 to R404, R408, R413 to R416). -/

namespace Sys2Proof.Machine

/-! ## Fields of a register -/

theorem extractLsb'_toNat_eq (v : Byte) (start len : Nat) : (v.extractLsb' start len).toNat = v.toNat / 2 ^ start % 2 ^ len := by
  rw [BitVec.extractLsb'_toNat, Nat.shiftRight_eq_div_pow]

theorem low3_toNat (v : Byte) : (v.extractLsb' 0 3).toNat = v.toNat % 8 := by
  rw [extractLsb'_toNat_eq]
  omega

theorem mid3_toNat (v : Byte) : (v.extractLsb' 4 3).toNat = v.toNat / 16 % 8 := extractLsb'_toNat_eq v 4 3

theorem high4_toNat (v : Byte) : (v.extractLsb' 4 4).toNat = v.toNat / 16 := by
  have hv := v.isLt
  rw [extractLsb'_toNat_eq]
  omega

theorem low3_eq_zero_iff (v : Byte) : v.extractLsb' 0 3 = 0 ↔ v.toNat % 8 = 0 := by
  rw [← BitVec.toNat_inj, low3_toNat]; rfl

theorem mid3_eq_zero_iff (v : Byte) : v.extractLsb' 4 3 = 0 ↔ v.toNat / 16 % 8 = 0 := by
  rw [← BitVec.toNat_inj, mid3_toNat]; rfl

/-! ## Frequency and period (R401, R414 to R416) -/

theorem freq_toNat (s : Board) (ch : Chan) :
    (freq s ch).toNat = 256 * ((rawRead s ch.nrx4).toNat % 8) + (rawRead s ch.nrx3).toNat := by
  rw [freq, BitVec.toNat_append, ← Nat.shiftLeft_add_eq_or_of_lt (rawRead s ch.nrx3).isLt, Nat.shiftLeft_eq, low3_toNat,
    Nat.mul_comm]

/-- The period of a generator in natural numbers. -/
def periodNat (s : Board) (ch : Chan) : Nat :=
  let n := (rawRead s ch.nrx3).toNat
  let f := 256 * ((rawRead s ch.nrx4).toNat % 8) + n
  match ch with
  | .one | .two => 4 * (2048 - f)
  | .three => 2 * (2048 - f)
  | .four => (if n % 8 = 0 then 8 else 16 * (n % 8)) * 2 ^ (n / 16)

theorem period_eq (s : Board) (ch : Chan) : period s ch = periodNat s ch := by
  cases ch
  case four =>
    simp only [period, noiseDivisor, low3_eq_zero_iff, low3_toNat, high4_toNat, Nat.shiftLeft_eq]
    rfl
  all_goals
    unfold period periodNat
    dsimp only
    rw [freq_toNat, Nat.mul_comm]

/-! ## The sweep (R413) -/

/-- Where the sweep goes from frequency `f`. -/
def sweepTarget (nr10 : Byte) (f : Nat) : Nat :=
  if nr10.getLsbD 3 = true then f - f / 2 ^ (nr10.toNat % 8) else f + f / 2 ^ (nr10.toNat % 8)

/-- What the sweep timer is reloaded with. -/
def sweepPeriod (nr10 : Byte) : Nat := if nr10.toNat / 16 % 8 = 0 then 8 else nr10.toNat / 16 % 8

theorem sweepNew_eq (s : Board) : sweepNew s = sweepTarget (rawRead s Io.nr10) s.apu.sweep.shadow.toNat := by
  unfold sweepNew sweepTarget
  dsimp only
  rw [Nat.shiftRight_eq_div_pow, low3_toNat]

theorem sweepReload_eq (s : Board) : sweepReload s = sweepPeriod (rawRead s Io.nr10) := by
  simp only [sweepReload, sweepPeriod, ne_eq, mid3_eq_zero_iff, mid3_toNat, ite_not]

/-! ## The digital output (R403, R414 to R416) -/

/-- Where the four duty waveforms are high (R414). -/
def DutyHigh (duty pos : Nat) : Prop :=
  duty = 0 ∧ pos = 7 ∨ duty = 1 ∧ (pos = 0 ∨ pos = 7) ∨ duty = 2 ∧ (pos = 0 ∨ 5 ≤ pos) ∨ duty = 3 ∧ 1 ≤ pos ∧ pos ≤ 6

theorem dutyHigh_iff (nrx1 : Byte) (pos : BitVec 3) : dutyHigh nrx1 pos = true ↔ DutyHigh (nrx1.toNat / 64) pos.toNat := by
  have table : ∀ (duty : BitVec 2) (pos : BitVec 3),
      (dutyWave.getD duty.toNat []).getD pos.toNat 0 = 1 ↔ DutyHigh duty.toNat pos.toNat := by
    unfold DutyHigh; decide
  have hv := nrx1.isLt
  have hduty : (nrx1.extractLsb' 6 2).toNat = nrx1.toNat / 64 := by
    rw [extractLsb'_toNat_eq]
    omega
  rw [dutyHigh, decide_eq_true_iff, table, hduty]

/-- The wave sample: even samples are high nibbles (R415). -/
theorem waveSample_toNat (s : Board) (pos : BitVec 5) :
    (waveSample s pos).toNat = if pos.toNat % 2 = 0 then (s.byteAt (0xFF30 + pos.toNat / 2)).toNat / 16
      else (s.byteAt (0xFF30 + pos.toNat / 2)).toNat % 16 := by
  have hbit : pos.getLsbD 0 = decide (pos.toNat % 2 = 1) := Nat.testBit_zero _
  unfold waveSample
  dsimp only
  rw [hbit]
  by_cases h : pos.toNat % 2 = 0
  · rw [if_pos h, if_neg (by simp [h]), high4_toNat]
  · rw [if_neg h, if_pos (by simpa using h), extractLsb'_toNat_eq]
    omega

/-- The output level of channel 3 as a divisor (R403). -/
theorem two_pow_waveShift (nr32 : Byte) :
    2 ^ waveShift nr32 = if nr32.toNat / 32 % 4 = 0 then 16 else if nr32.toNat / 32 % 4 = 1 then 1
      else if nr32.toNat / 32 % 4 = 2 then 2 else 4 := by
  have level (n : Nat) (hn : n < 4) : nr32.extractLsb' 5 2 = BitVec.ofNat 2 n ↔ nr32.toNat / 32 % 4 = n := by
    rw [← BitVec.toNat_inj, extractLsb'_toNat_eq, BitVec.toNat_ofNat, Nat.mod_eq_of_lt (a := n) hn]
    exact Iff.rfl
  unfold waveShift
  simp only [← level 0 (by decide), ← level 1 (by decide), ← level 2 (by decide)]
  split_ifs <;> simp_all

theorem digitalOutput_disabled {s : Board} {ch : Chan} (h : (s.apu.channel ch).en = false) : digitalOutput s ch = 0 :=
  if_neg (ne_true_of_eq_false h)

section
variable {s : Board}

theorem digitalOutput_one (h : s.apu.ch1.en = true) :
    digitalOutput s .one = if dutyHigh (rawRead s Io.nr11) s.apu.duty1 = true then s.apu.env1.vol.toNat else 0 := if_pos h

theorem digitalOutput_two (h : s.apu.ch2.en = true) :
    digitalOutput s .two = if dutyHigh (rawRead s Io.nr21) s.apu.duty2 = true then s.apu.env2.vol.toNat else 0 := if_pos h

theorem digitalOutput_three (h : s.apu.ch3.en = true) :
    digitalOutput s .three = (waveSample s s.apu.pos3).toNat / 2 ^ waveShift (rawRead s Io.nr32) :=
  (if_pos h).trans (Nat.shiftRight_eq_div_pow _ _)

theorem digitalOutput_four (h : s.apu.ch4.en = true) :
    digitalOutput s .four = if s.apu.lfsr.getLsbD 0 = true then 0 else s.apu.env4.vol.toNat := if_pos h

end

end Sys2Proof.Machine
end

section
/-! The exceptions family (spec/60_exceptions.md), the trigger of a sound channel (R406, R408, R409). -/

namespace Sys2Proof.Machine

/-! ## The switch and its bit of NR52 (R405, R408) -/

/-- NR52 shows the switch of this channel. -/
def ShowsSwitch (ch : Chan) (s : Board) : Prop := (rawRead s Io.nr52).getLsbD ch.bit = (s.apu.channel ch).en

theorem showsSwitch_setEnabled (ch : Chan) (b : Bool) (s : Board) : ShowsSwitch ch (setEnabled ch b s) := by
  unfold ShowsSwitch
  rw [setEnabled_nr52, setEnabled_apu, Apu.channel_setChannel, if_pos rfl]

theorem ChannelMoves.showsSwitch {ch : Chan} {s t : Board} (m : ChannelMoves s t) (h : ShowsSwitch ch s) :
    ShowsSwitch ch t := by
  induction m with
  | refl => exact h
  | enable c b _ ih =>
    by_cases hc : ch = c
    · rw [hc]
      exact showsSwitch_setEnabled c b _
    · unfold ShowsSwitch
      rw [setEnabled_nr52_other hc, setEnabled_apu, Apu.channel_setChannel, if_neg hc]
      exact ih
  | hidden hf _ ih => exact ih.trans ((hf _).1 ch).symm
  | write v ha _ ih =>
    unfold ShowsSwitch
    rw [rawRead_rawWrite_other _ v ha]
    exact ih

/-! ## What `Trigger` does to every channel, before the parts of its own (R409) -/

/-- Enabled, an empty length counter filled, the timer at a full period. -/
def triggerCommon (ch : Chan) (s : Board) : Board :=
  let s := setEnabled ch true s
  let s := if (s.apu.channel ch).len = 0 then setLen ch (fullLength ch) s else s
  setTimer ch (period s ch) s

theorem trigger_eq (ch : Chan) (s : Board) :
    trigger ch s =
      let t := triggerOwn ch (triggerCommon ch s)
      if dacEnabled t ch = true then t else setEnabled ch false t := rfl

theorem touches_triggerCommon (ch : Chan) (s : Board) : Touches [Io.nr52] false false true s (triggerCommon ch s) := by
  have enabled := touches_setEnabled ch true s
  exact (Touches.ite (fun _ => enabled.trans (touches_setLen _ _ _)) fun _ => enabled).trans (touches_setTimer ch _ _)

theorem Chan.nrx3_ne_nr52 (ch : Chan) : ch.nrx3 ≠ Io.nr52 := by cases ch <;> decide
theorem Chan.nrx4_ne_nr52 (ch : Chan) : ch.nrx4 ≠ Io.nr52 := by cases ch <;> decide
theorem Chan.nrx2_ne_nr52 (ch : Chan) : ch.nrx2 ≠ Io.nr52 := by cases ch <;> decide
theorem Chan.nrx2_ne_nrx4 (ch : Chan) : ch.nrx2 ≠ ch.nrx4 := by cases ch <;> decide
theorem Chan.nrx3_ne_nrx4 (ch : Chan) : ch.nrx3 ≠ ch.nrx4 := by cases ch <;> decide

theorem triggerCommon_apu (ch : Chan) (s : Board) :
    (triggerCommon ch s).apu = s.apu.setChannel ch
      ⟨true, period s ch, if (s.apu.channel ch).len = 0 then fullLength ch else (s.apu.channel ch).len⟩ := by
  have hperiod {t : Board} (h : Touches [Io.nr52] false false true s t) : period t ch = period s ch :=
    period_congr ch (h.bytes _ (by simpa using ch.nrx3_ne_nr52)) (h.bytes _ (by simpa using ch.nrx4_ne_nr52))
  have henabled : (setEnabled ch true s).apu.channel ch = { s.apu.channel ch with en := true } := by
    rw [setEnabled_apu, Apu.channel_setChannel, if_pos rfl]
  have enabled := touches_setEnabled ch true s
  unfold triggerCommon
  dsimp only
  rw [henabled]
  split
  · rw [hperiod (enabled.trans (touches_setLen _ _ _)), setTimer_apu, setLen_apu, henabled, setEnabled_apu]
    simp only [Apu.setChannel_setChannel, Apu.channel_setChannel, if_true]
  · rw [hperiod enabled, setTimer_apu, henabled, setEnabled_apu]
    simp only [Apu.setChannel_setChannel]

/-! ## The parts of its own (R409) -/

/-- The sweep's check at a trigger switches channel 1 off. -/
def triggerOverflows (s : Board) : Bool :=
  decide ((rawRead s Io.nr10).toNat % 8 ≠ 0 ∧ 2047 < sweepTarget (rawRead s Io.nr10) (freq s .one).toNat)

/-- The envelope a trigger starts. -/
def startedEnvelope (nrx2 : Byte) : Envelope := ⟨BitVec.ofNat 4 (nrx2.toNat / 16), nrx2.toNat % 8, true⟩

theorem triggerEnvelope_eq (ch : Chan) (s : Board) :
    triggerEnvelope ch s = mapApu (fun p => p.setEnvelope ch (startedEnvelope (rawRead s ch.nrx2))) s := by
  have hvol (v : Byte) : v.extractLsb' 4 4 = BitVec.ofNat 4 (v.toNat / 16) := by
    rw [← high4_toNat, BitVec.ofNat_toNat, BitVec.setWidth_eq]
  unfold triggerEnvelope startedEnvelope
  dsimp only
  rw [hvol, low3_toNat]

/-- The sweep a trigger starts. -/
def startedSweep (s : Board) : Sweep :=
  ⟨freq s .one, sweepPeriod (rawRead s Io.nr10), decide (rawRead s Io.nr10 &&& 0x77 ≠ 0)⟩

theorem sweepFields_eq : ∀ v : Byte, (decide (v.extractLsb' 4 3 ≠ 0) || decide (v.extractLsb' 0 3 ≠ 0)) = decide (v &&& 0x77 ≠ 0) := by
  decide

/-- The sweep's check switches channel 1 off, or nothing (R413). -/
theorem sweepCheck_apu_eq (s : Board) :
    (sweepCheck s).apu = { s.apu with ch1 := { s.apu.ch1 with
      en := s.apu.ch1.en && !decide (2047 < sweepTarget (rawRead s Io.nr10) s.apu.sweep.shadow.toNat) } } := by
  rw [sweepCheck_apu, ← sweepNew_eq]
  by_cases h : 2047 < sweepNew s
  · rw [if_pos h, decide_eq_true h, Bool.not_true, Bool.and_false]
  · rw [if_neg h, decide_eq_false h, Bool.not_false, Bool.and_true]

theorem triggerSweep_apu (s : Board) :
    (triggerSweep s).apu =
      { s.apu with ch1 := { s.apu.ch1 with en := s.apu.ch1.en && !triggerOverflows s }, sweep := startedSweep s } := by
  unfold triggerSweep triggerOverflows
  dsimp only
  rw [sweepReload_eq, sweepFields_eq, ← startedSweep]
  by_cases h0 : (rawRead s Io.nr10).toNat % 8 = 0
  · rw [if_neg (not_not_intro ((low3_eq_zero_iff _).mpr h0)), decide_eq_false (fun h => h.1 h0), Bool.not_false, Bool.and_true]
    rfl
  · have hcheck : decide ((rawRead s Io.nr10).toNat % 8 ≠ 0 ∧ 2047 < sweepTarget (rawRead s Io.nr10) (freq s .one).toNat) =
        decide (2047 < sweepTarget (rawRead s Io.nr10) (freq s .one).toNat) := decide_eq_decide.mpr (and_iff_right h0)
    rw [if_pos (mt (low3_eq_zero_iff _).mp h0), sweepCheck_apu_eq, hcheck]
    rfl

/-- What a trigger starts in the parts one channel alone has. -/
def startOwn (s : Board) (ch : Chan) (p : Apu) : Apu :=
  match ch with
  | .one => { p with ch1 := { p.ch1 with en := p.ch1.en && !triggerOverflows s },
                     env1 := startedEnvelope (rawRead s Io.nr12), sweep := startedSweep s }
  | .two => { p with env2 := startedEnvelope (rawRead s Io.nr22) }
  | .three => { p with pos3 := 0 }
  | .four => { p with env4 := startedEnvelope (rawRead s Io.nr42), lfsr := 0x7FFF }

theorem triggerOwn_apu (ch : Chan) (s : Board) : (triggerOwn ch s).apu = startOwn s ch s.apu := by
  cases ch
  case one =>
    have h := triggerSweep_apu (triggerEnvelope .one s)
    rw [triggerEnvelope_eq] at h
    exact (congrArg (fun t => (triggerSweep t).apu) (triggerEnvelope_eq .one s)).trans h
  case two => exact congrArg Board.apu (triggerEnvelope_eq .two s)
  case three => rfl
  case four => exact congrArg (fun t => { t.apu with lfsr := 0x7FFF }) (triggerEnvelope_eq .four s)

/-- What is started depends on the registers but NR52 only. -/
theorem startOwn_congr {s t : Board} (h : ∀ a, a ∉ [Io.nr52] → rawRead t a = rawRead s a) (ch : Chan) (p : Apu) :
    startOwn t ch p = startOwn s ch p := by
  have hnr10 := h Io.nr10 (by simp)
  have hfreq : freq t .one = freq s .one := by
    unfold freq
    rw [h _ (by simpa using Chan.one.nrx4_ne_nr52), h _ (by simpa using Chan.one.nrx3_ne_nr52)]
  unfold startOwn triggerOverflows startedSweep
  rw [hnr10, hfreq, h Io.nr12 (by simp), h Io.nr22 (by simp), h Io.nr42 (by simp)]

/-! ## The DAC (R408) -/

theorem dacEnabled_eq (s : Board) (ch : Chan) :
    dacEnabled s ch = if ch = .three then (rawRead s Io.nr30).getLsbD 7 else decide (8 ≤ (rawRead s ch.nrx2).toNat) := by
  have table : ∀ v : Byte, decide (v &&& 0xF8 ≠ 0) = decide (8 ≤ v.toNat) := by decide
  cases ch
  case three => rfl
  all_goals exact table _

theorem dacEnabled_congr {s t : Board} (h : ∀ a, a ∉ [Io.nr52] → rawRead t a = rawRead s a) (ch : Chan) :
    dacEnabled t ch = dacEnabled s ch := by
  rw [dacEnabled_eq, dacEnabled_eq, h Io.nr30 (by simp), h ch.nrx2 (by simpa using ch.nrx2_ne_nr52)]

/-! ## The trigger, whole (R409) -/

/-- Everything a trigger does to the hidden state. -/
theorem trigger_apu (ch : Chan) (s : Board) :
    (trigger ch s).apu =
      let p := startOwn s ch (s.apu.setChannel ch
        ⟨true, period s ch, if (s.apu.channel ch).len = 0 then fullLength ch else (s.apu.channel ch).len⟩)
      p.setChannel ch { p.channel ch with en := (p.channel ch).en && dacEnabled s ch } := by
  have common := touches_triggerCommon ch s
  have hdac : dacEnabled (triggerOwn ch (triggerCommon ch s)) ch = dacEnabled s ch :=
    dacEnabled_congr (common.trans (touches_triggerOwn ch _)).bytes ch
  have hown := triggerOwn_apu ch (triggerCommon ch s)
  rw [startOwn_congr common.bytes, triggerCommon_apu] at hown
  rw [trigger_eq]
  dsimp only
  rw [hdac, ← hown]
  cases dacEnabled s ch
  · rw [if_neg Bool.false_ne_true, setEnabled_apu, Bool.and_false]
  · rw [if_pos rfl, Bool.and_true]
    exact (Apu.setChannel_channel _ _).symm

theorem startOwn_channel (s : Board) (ch c : Chan) (p : Apu) :
    (startOwn s ch p).channel c =
      if c = .one ∧ ch = .one then { p.channel c with en := (p.channel c).en && !triggerOverflows s } else p.channel c := by
  cases ch <;> cases c <;> rfl

theorem startOwn_envelope (s : Board) (ch c : Chan) (p : Apu) :
    (startOwn s ch p).envelope c =
      if c = ch then (p.envelope c).map (fun _ => startedEnvelope (rawRead s c.nrx2)) else p.envelope c := by
  cases ch <;> cases c <;> rfl

theorem Apu.envelope_setChannel (p : Apu) (ch c : Chan) (x : Channel) : (p.setChannel ch x).envelope c = p.envelope c := by
  cases ch <;> cases c <;> rfl

section
variable (ch : Chan) (s : Board)

/-- The channel itself after its trigger. -/
theorem trigger_channel :
    (trigger ch s).apu.channel ch =
      ⟨dacEnabled s ch && !(decide (ch = .one) && triggerOverflows s), period s ch,
        if (s.apu.channel ch).len = 0 then fullLength ch else (s.apu.channel ch).len⟩ := by
  rw [trigger_apu]
  dsimp only
  rw [Apu.channel_setChannel, if_pos rfl, startOwn_channel, Apu.channel_setChannel, if_pos rfl]
  by_cases hone : ch = .one
  · rw [if_pos ⟨hone, hone⟩, decide_eq_true hone]
    dsimp only
    rw [Bool.true_and, Bool.true_and, Bool.and_comm]
  · rw [if_neg (fun h => hone h.1), decide_eq_false hone, Bool.false_and, Bool.not_false, Bool.and_true]
    dsimp only
    rw [Bool.true_and]

theorem trigger_channel_other {c : Chan} (h : c ≠ ch) : (trigger ch s).apu.channel c = s.apu.channel c := by
  have hown : ¬ (c = .one ∧ ch = .one) := fun k => h (k.1.trans k.2.symm)
  rw [trigger_apu]
  dsimp only
  rw [Apu.channel_setChannel, if_neg h, startOwn_channel, if_neg hown, Apu.channel_setChannel, if_neg h]

theorem trigger_envelope (c : Chan) :
    (trigger ch s).apu.envelope c =
      if c = ch then (s.apu.envelope c).map (fun _ => startedEnvelope (rawRead s c.nrx2)) else s.apu.envelope c := by
  rw [trigger_apu]
  dsimp only
  rw [Apu.envelope_setChannel, startOwn_envelope, Apu.envelope_setChannel]

theorem trigger_sweep : (trigger ch s).apu.sweep = if ch = .one then startedSweep s else s.apu.sweep := by
  rw [trigger_apu]
  cases ch <;> rfl

theorem trigger_positions :
    (trigger ch s).apu.duty1 = s.apu.duty1 ∧ (trigger ch s).apu.duty2 = s.apu.duty2 ∧
    (trigger ch s).apu.pos3 = (if ch = .three then 0 else s.apu.pos3) ∧
    (trigger ch s).apu.lfsr = (if ch = .four then 0x7FFF else s.apu.lfsr) ∧
    (trigger ch s).apu.fsStep = s.apu.fsStep ∧ (trigger ch s).apu.fsAcc = s.apu.fsAcc := by
  rw [trigger_apu]
  cases ch <;> exact ⟨rfl, rfl, rfl, rfl, rfl, rfl⟩

theorem trigger_period : period (trigger ch s) ch = period s ch :=
  period_congr ch ((touches_trigger ch s).bytes _ (by simpa using ch.nrx3_ne_nr52))
    ((touches_trigger ch s).bytes _ (by simpa using ch.nrx4_ne_nr52))

end

theorem showsSwitch_trigger (ch : Chan) (s : Board) : ShowsSwitch ch (trigger ch s) := by
  have enabled := showsSwitch_setEnabled ch true s
  have common : ShowsSwitch ch (triggerCommon ch s) := by
    refine (ChannelMoves.trans (t := if ((setEnabled ch true s).apu.channel ch).len = 0
      then setLen ch (fullLength ch) (setEnabled ch true s) else setEnabled ch true s) ?_
        (channelMoves_setTimer ch _ _)).showsSwitch enabled
    exact .ite (fun _ => channelMoves_setLen ch _ _) fun _ => .refl
  have own := channelMoves_triggerOwn ch (triggerCommon ch s)
  rw [trigger_eq]
  exact (ChannelMoves.ite (fun _ => own) fun _ => .enable ch false own).showsSwitch common

/-! ## The write that triggers (R406) -/

/-- With the power on, a write of NRx4 with bit 7 stores the byte and triggers. -/
theorem memWrite_nrx4_trigger {s : Board} {v : Byte} (ch : Chan) (hon : apuPowered s = true) (hv : v.getLsbD 7 = true) :
    memWrite s ch.nrx4 v = trigger ch (rawWrite s ch.nrx4 v) := by
  have heffect (t : Board) : apuWriteEffect ch.nrx4 v t = if v.getLsbD 7 = true then trigger ch t else t := by
    cases ch <;> rfl
  have hwave : ¬ (0xFF30 ≤ ch.nrx4 ∧ ch.nrx4 ≤ 0xFF3F) := by cases ch <;> decide
  have hio : 0xFF00 ≤ ch.nrx4 ∧ ch.nrx4 ≤ 0xFF7F := by cases ch <;> decide
  have hsound : soundAddress ch.nrx4 = true := by cases ch <;> rfl
  rw [memWrite_io hio.1 hio.2, ioWrite_of_soundAddress hsound, apuWrite, if_neg hwave, if_neg ch.nrx4_ne_nr52, if_pos hon,
    heffect, if_pos hv]

end Sys2Proof.Machine
end

section
/-! The exceptions family (spec/60_exceptions.md), one tick of the frame sequencer: the length counters, then the sweep,
then the envelopes (R411 to R413, R421). -/

namespace Sys2Proof.Machine

/-! ## The length counters (R411) -/

/-- The four length ticks of an even step. -/
def lengthTicks (s : Board) : Board := lengthTick .four (lengthTick .three (lengthTick .two (lengthTick .one s)))

/-- A channel after its length tick. -/
def lengthTicked (s : Board) (ch : Chan) : Channel :=
  { s.apu.channel ch with
    len := if (rawRead s ch.nrx4).getLsbD 6 = true then (s.apu.channel ch).len - 1 else (s.apu.channel ch).len
    en := if (rawRead s ch.nrx4).getLsbD 6 = true ∧ (s.apu.channel ch).len = 1 then false else (s.apu.channel ch).en }

theorem lengthTick_apu_eq (ch : Chan) (s : Board) : (lengthTick ch s).apu = s.apu.setChannel ch (lengthTicked s ch) :=
  lengthTick_apu ch s

/-- The tick of another channel does not matter. -/
theorem lengthTicked_lengthTick {c ch : Chan} (h : c ≠ ch) (s : Board) : lengthTicked (lengthTick ch s) c = lengthTicked s c := by
  have hread : rawRead (lengthTick ch s) c.nrx4 = rawRead s c.nrx4 :=
    (touches_lengthTick ch s).bytes _ (by simpa using c.nrx4_ne_nr52)
  have hchannel : (lengthTick ch s).apu.channel c = s.apu.channel c := by
    rw [lengthTick_apu_eq, Apu.channel_setChannel, if_neg h]
  unfold lengthTicked
  rw [hread, hchannel]

theorem lengthTicks_apu (s : Board) :
    (lengthTicks s).apu = { s.apu with ch1 := lengthTicked s .one, ch2 := lengthTicked s .two,
                                       ch3 := lengthTicked s .three, ch4 := lengthTicked s .four } := by
  have h2 : (Chan.two : Chan) ≠ .one := by decide
  have h31 : (Chan.three : Chan) ≠ .one := by decide
  have h32 : (Chan.three : Chan) ≠ .two := by decide
  have h41 : (Chan.four : Chan) ≠ .one := by decide
  have h42 : (Chan.four : Chan) ≠ .two := by decide
  have h43 : (Chan.four : Chan) ≠ .three := by decide
  rw [lengthTicks, lengthTick_apu_eq, lengthTick_apu_eq, lengthTick_apu_eq, lengthTick_apu_eq, lengthTicked_lengthTick h43,
    lengthTicked_lengthTick h42, lengthTicked_lengthTick h41, lengthTicked_lengthTick h32, lengthTicked_lengthTick h31,
    lengthTicked_lengthTick h2]
  rfl

theorem lengthTicks_channel (s : Board) (ch : Chan) : (lengthTicks s).apu.channel ch = lengthTicked s ch := by
  rw [lengthTicks_apu]
  cases ch <;> rfl

theorem touches_lengthTicks (s : Board) : Touches [Io.nr52] false false true s (lengthTicks s) :=
  (((touches_lengthTick _ s).trans (touches_lengthTick _ _)).trans (touches_lengthTick _ _)).trans (touches_lengthTick _ _)

/-! ## The sweep (R413) -/

/-- The sweep's timer runs out, and the sweep is on. -/
abbrev SweepRuns (nr10 : Byte) (w : Sweep) : Prop := w.timer ≤ 1 ∧ w.on = true ∧ nr10.toNat / 16 % 8 ≠ 0

/-- The sweep writes the new frequency. -/
abbrev SweepStores (nr10 : Byte) (w : Sweep) : Prop :=
  SweepRuns nr10 w ∧ sweepTarget nr10 w.shadow.toNat ≤ 2047 ∧ nr10.toNat % 8 ≠ 0

/-- One of the sweep's two checks switches channel 1 off. -/
abbrev SweepFails (nr10 : Byte) (w : Sweep) : Prop :=
  SweepRuns nr10 w ∧ 2047 < sweepTarget nr10 w.shadow.toNat ∨
    SweepStores nr10 w ∧ 2047 < sweepTarget nr10 (sweepTarget nr10 w.shadow.toNat)

/-- The sweep's timer after a tick. -/
def sweepTimer (nr10 : Byte) (w : Sweep) : Nat := if w.timer ≤ 1 then sweepPeriod nr10 else w.timer - 1

/-- The sweep after a tick. -/
def sweepTicked (nr10 : Byte) (w : Sweep) : Sweep :=
  { w with timer := sweepTimer nr10 w
           shadow := if SweepStores nr10 w then BitVec.ofNat 11 (sweepTarget nr10 w.shadow.toNat) else w.shadow }

/-- The timer's part of a sweep tick. -/
def sweepTimed (s : Board) : Board :=
  mapApu (fun p => { p with sweep := { p.sweep with timer := sweepTimer (rawRead s Io.nr10) s.apu.sweep } }) s

/-- The rest of a sweep tick, when the timer has run out. -/
def sweepRun (s : Board) : Board :=
  let nr10 := rawRead s Io.nr10
  if s.apu.sweep.on ∧ nr10.extractLsb' 4 3 ≠ 0 then
    let new := sweepNew s
    let t := sweepCheck s
    if new ≤ 2047 ∧ nr10.extractLsb' 0 3 ≠ 0 then sweepCheck (sweepStore (BitVec.ofNat 11 new) t) else t
  else s

@[simp] theorem sweepTimed_rawRead (s : Board) (a : Word) : rawRead (sweepTimed s) a = rawRead s a := rfl

theorem sweepTick_wait {s : Board} (h : 1 < s.apu.sweep.timer) : sweepTick s = sweepTimed s := by
  have htimed : sweepTimed s = mapApu (fun p => { p with sweep := { p.sweep with timer := p.sweep.timer - 1 } }) s := by
    rw [sweepTimed, sweepTimer, if_neg (by omega)]
    rfl
  have hleft : s.apu.sweep.timer - 1 ≠ 0 := by omega
  rw [htimed]
  exact if_pos hleft

theorem sweepTick_runOut {s : Board} (h : s.apu.sweep.timer ≤ 1) : sweepTick s = sweepRun (sweepTimed s) := by
  let counted := mapApu (fun p => { p with sweep := { p.sweep with timer := p.sweep.timer - 1 } }) s
  have htimed : sweepTimed s = mapApu (fun p => { p with sweep := { p.sweep with timer := sweepReload counted } }) counted := by
    rw [sweepTimed, sweepTimer, if_pos h, sweepReload_eq]
    rfl
  have hout : ¬ s.apu.sweep.timer - 1 ≠ 0 := by omega
  rw [htimed]
  exact if_neg hout

/-- The check that passes changes nothing. -/
theorem sweepCheck_of_le {s : Board} (h : sweepNew s ≤ 2047) : sweepCheck s = s := if_neg (Nat.not_lt.mpr h)

theorem sweepTick_eq (s : Board) :
    sweepTick s =
      if SweepRuns (rawRead s Io.nr10) s.apu.sweep then
        if SweepStores (rawRead s Io.nr10) s.apu.sweep then
          sweepCheck (sweepStore (BitVec.ofNat 11 (sweepTarget (rawRead s Io.nr10) s.apu.sweep.shadow.toNat)) (sweepTimed s))
        else sweepCheck (sweepTimed s)
      else sweepTimed s := by
  by_cases ht : s.apu.sweep.timer ≤ 1
  · have hnew : sweepNew (sweepTimed s) = sweepTarget (rawRead s Io.nr10) s.apu.sweep.shadow.toNat := sweepNew_eq _
    have hon : ((sweepTimed s).apu.sweep.on = true ∧ (rawRead s Io.nr10).extractLsb' 4 3 ≠ 0) ↔
        SweepRuns (rawRead s Io.nr10) s.apu.sweep := by
      rw [ne_eq, mid3_eq_zero_iff]
      exact (and_iff_right ht).symm
    rw [sweepTick_runOut ht]
    unfold sweepRun
    dsimp only
    rw [hnew, sweepTimed_rawRead]
    by_cases hruns : SweepRuns (rawRead s Io.nr10) s.apu.sweep
    · rw [if_pos hruns, if_pos (hon.mpr hruns)]
      by_cases hstores : SweepStores (rawRead s Io.nr10) s.apu.sweep
      · have ⟨_, hle, h0⟩ := hstores
        rw [if_pos hstores, if_pos ⟨hle, mt (low3_eq_zero_iff _).mp h0⟩, sweepCheck_of_le (hnew.le.trans hle)]
      · rw [if_neg hstores, if_neg]
        rintro ⟨hle, h0⟩
        exact hstores ⟨hruns, hle, mt (low3_eq_zero_iff _).mpr h0⟩
    · rw [if_neg hruns, if_neg (mt hon.mp hruns)]
  · rw [if_neg (fun h => ht h.1), sweepTick_wait (by omega)]

/-- Everything a sweep tick does to the hidden state. -/
theorem sweepTick_apu (s : Board) :
    let nr10 := rawRead s Io.nr10
    let w := s.apu.sweep
    (sweepTick s).apu = { s.apu with
      ch1 := { s.apu.ch1 with en := s.apu.ch1.en && !decide (SweepFails nr10 w) }, sweep := sweepTicked nr10 w } := by
  intro nr10 w
  rw [sweepTick_eq, sweepTicked]
  by_cases hruns : SweepRuns nr10 w
  · rw [if_pos hruns]
    by_cases hstores : SweepStores nr10 w
    · have hle := hstores.2.1
      have hfails : SweepFails nr10 w ↔ 2047 < sweepTarget nr10 (sweepTarget nr10 w.shadow.toNat) :=
        ⟨fun h => h.elim (fun k => absurd k.2 (Nat.not_lt.mpr hle)) And.right, fun h => .inr ⟨hstores, h⟩⟩
      have hshadow : (BitVec.ofNat 11 (sweepTarget nr10 w.shadow.toNat)).toNat = sweepTarget nr10 w.shadow.toNat :=
        Nat.mod_eq_of_lt (Nat.lt_succ_of_le hle)
      rw [if_pos hstores, if_pos hstores, sweepCheck_apu_eq, (touches_sweepStore _ _).bytes Io.nr10 (by simp),
        sweepStore_apu, hshadow, decide_eq_decide.mpr hfails]
      rfl
    · have hfails : SweepFails nr10 w ↔ 2047 < sweepTarget nr10 w.shadow.toNat :=
        ⟨fun h => h.elim And.right (fun k => absurd k.1 hstores), fun h => .inl ⟨hruns, h⟩⟩
      rw [if_neg hstores, if_neg hstores, sweepCheck_apu_eq, decide_eq_decide.mpr hfails]
      rfl
  · have hstores : ¬ SweepStores nr10 w := fun h => hruns h.1
    have hfails : ¬ SweepFails nr10 w := fun h => h.elim (fun k => hruns k.1) (fun k => hstores k.1)
    rw [if_neg hruns, if_neg hstores, decide_eq_false hfails, Bool.not_false, Bool.and_true]
    rfl

/-- A sweep tick writes NR13 and NR14 when it stores, and no other register but NR52. -/
theorem sweepTick_rawRead (s : Board) {a : Word} (h : a ≠ Io.nr52) :
    rawRead (sweepTick s) a =
      if SweepStores (rawRead s Io.nr10) s.apu.sweep then
        rawRead (sweepStore (BitVec.ofNat 11 (sweepTarget (rawRead s Io.nr10) s.apu.sweep.shadow.toNat)) s) a
      else rawRead s a := by
  have check (t : Board) : rawRead (sweepCheck t) a = rawRead t a := (touches_sweepCheck t).bytes a (by simpa using h)
  rw [sweepTick_eq]
  by_cases hruns : SweepRuns (rawRead s Io.nr10) s.apu.sweep
  · rw [if_pos hruns]
    split
    · exact check _
    · exact check _
  · rw [if_neg hruns, if_neg (fun h => hruns h.1)]
    rfl

theorem sweepStore_nr13 (new : BitVec 11) (s : Board) : (rawRead (sweepStore new s) Io.nr13).toNat = new.toNat % 256 := by
  have h : rawRead (sweepStore new s) Io.nr13 = new.extractLsb' 0 8 :=
    (rawRead_rawWrite_other _ _ (by decide)).trans (rawRead_rawWrite_same _ _ _)
  rw [h, BitVec.extractLsb'_toNat, Nat.shiftRight_zero]

theorem sweepStore_nr14 (new : BitVec 11) (s : Board) :
    (rawRead (sweepStore new s) Io.nr14).toNat = 8 * ((rawRead s Io.nr14).toNat / 8) + new.toNat / 256 := by
  have join (v : Byte) (x : BitVec 3) : (v &&& 0xF8) ||| x.setWidth 8 = v.extractLsb' 3 5 ++ x := by
    refine BitVec.eq_of_getLsbD_eq fun i hi => ?_
    refine Eq.trans ?_ (BitVec.getLsbD_append (x := v.extractLsb' 3 5) (y := x)).symm
    interval_cases i <;> simp
  have old : rawRead (rawWrite (mapApu (fun p => { p with sweep := { p.sweep with shadow := new } }) s) Io.nr13
      (new.extractLsb' 0 8)) Io.nr14 = rawRead s Io.nr14 := rawRead_rawWrite_other _ _ (by decide)
  have h : rawRead (sweepStore new s) Io.nr14 = (rawRead s Io.nr14).extractLsb' 3 5 ++ new.extractLsb' 8 3 := by
    rw [← join, ← old]
    exact rawRead_rawWrite_same _ _ _
  have hv := (rawRead s Io.nr14).isLt
  have hnew := new.isLt
  rw [h, BitVec.toNat_append, ← Nat.shiftLeft_add_eq_or_of_lt (new.extractLsb' 8 3).isLt, Nat.shiftLeft_eq,
    extractLsb'_toNat_eq, BitVec.extractLsb'_toNat, Nat.shiftRight_eq_div_pow]
  omega

/-! ## The envelopes (R412) -/

section
variable {v : Envelope} {nrx2 : Byte}

/-- An envelope that is off, or has no period, stands still. -/
theorem Envelope.tick_still (h : v.on = false ∨ nrx2.toNat % 8 = 0) : v.tick nrx2 = v := by
  have hstill : (!v.on || decide ((nrx2.extractLsb' 0 3).toNat = 0)) = true := by
    rw [low3_toNat]
    rcases h with h | h <;> simp [h]
  exact if_pos hstill

/-- Before its timer runs out an envelope counts. -/
theorem Envelope.tick_count (hon : v.on = true) (hp : nrx2.toNat % 8 ≠ 0) (ht : 1 < v.timer) :
    v.tick nrx2 = { v with timer := v.timer - 1 } := by
  have hmoves : ¬ (!v.on || decide ((nrx2.extractLsb' 0 3).toNat = 0)) = true := by
    rw [low3_toNat]
    simp [hon, hp]
  exact (if_neg hmoves).trans (if_pos (by omega))

/-- When its timer runs out an envelope moves the volume by one, until its extreme, where it switches off. -/
theorem Envelope.tick_move (hon : v.on = true) (hp : nrx2.toNat % 8 ≠ 0) (ht : v.timer ≤ 1) :
    (v.tick nrx2).timer = nrx2.toNat % 8 ∧
    (v.tick nrx2).vol.toNat = (if nrx2.getLsbD 3 = true then min 15 (v.vol.toNat + 1) else v.vol.toNat - 1) ∧
    (v.tick nrx2).on = decide (v.vol.toNat ≠ if nrx2.getLsbD 3 = true then 15 else 0) := by
  have hmoves : ¬ (!v.on || decide ((nrx2.extractLsb' 0 3).toNat = 0)) = true := by
    rw [low3_toNat]
    simp [hon, hp]
  have hlt := v.vol.isLt
  have hlow : 0#4 < v.vol ↔ v.vol.toNat ≠ 0 := Nat.pos_iff_ne_zero
  have hhigh : v.vol < 15#4 ↔ v.vol.toNat ≠ 15 := by bv_omega
  have hup (h : v.vol.toNat ≠ 15) : (v.vol + 1#4).toNat = v.vol.toNat + 1 := by bv_omega
  have hdown (h : v.vol.toNat ≠ 0) : (v.vol - 1#4).toNat = v.vol.toNat - 1 := by bv_omega
  rw [Envelope.tick, if_neg hmoves, if_neg (by omega), low3_toNat]
  cases nrx2.getLsbD 3
  case true =>
    by_cases hmax : v.vol.toNat = 15
    · simp [hhigh, hmax]
    · simp [hhigh, hmax, hup, hon]
      omega
  case false =>
    by_cases hmin : v.vol.toNat = 0
    · simp [hlow, hmin]
    · simp [hlow, hmin, hdown, hon]

end

/-! ## The tick (R421) -/

/-- The length counters' part of a tick. -/
def lengthStage (s : Board) : Board := if s.apu.fsStep.getLsbD 0 = true then s else lengthTicks s

/-- The sweep's part of a tick. -/
def sweepStage (step : BitVec 3) (s : Board) : Board := if step = 2 ∨ step = 6 then sweepTick s else s

/-- The envelopes' part of a tick. -/
def envelopeStage (step : BitVec 3) (s : Board) : Board :=
  if step = 7 then envelopeTick .four (envelopeTick .two (envelopeTick .one s)) else s

theorem frameSequencerTick_eq (s : Board) :
    frameSequencerTick s =
      mapApu (fun p => { p with fsStep := s.apu.fsStep + 1 })
        (envelopeStage s.apu.fsStep (sweepStage s.apu.fsStep (lengthStage s))) := rfl

theorem touches_lengthStage (s : Board) : Touches [Io.nr52] false false true s (lengthStage s) :=
  Touches.ite (fun _ => Touches.refl s) fun _ => touches_lengthTicks s

theorem touches_sweepStage (step : BitVec 3) (s : Board) :
    Touches [Io.nr13, Io.nr14, Io.nr52] false false true s (sweepStage step s) :=
  Touches.ite (fun _ => touches_sweepTick s) fun _ => Touches.refl s

theorem touches_envelopeStage (step : BitVec 3) (s : Board) : Touches [] false false true s (envelopeStage step s) :=
  Touches.ite (fun _ => ((touches_envelopeTick _ s).trans (touches_envelopeTick _ _)).trans (touches_envelopeTick _ _))
    fun _ => Touches.refl s

/-- The channel's length counter counts in this tick. -/
abbrev LengthCounts (s : Board) (ch : Chan) : Prop :=
  s.apu.fsStep.toNat % 2 = 0 ∧ (rawRead s ch.nrx4).getLsbD 6 = true

/-- A channel after the length counters' part of a tick. -/
def lengthStaged (s : Board) (ch : Chan) : Channel :=
  { s.apu.channel ch with
    len := if LengthCounts s ch then (s.apu.channel ch).len - 1 else (s.apu.channel ch).len
    en := if LengthCounts s ch ∧ (s.apu.channel ch).len = 1 then false else (s.apu.channel ch).en }

theorem lengthStage_channel (s : Board) (ch : Chan) : (lengthStage s).apu.channel ch = lengthStaged s ch := by
  have hbit : s.apu.fsStep.getLsbD 0 = true ↔ s.apu.fsStep.toNat % 2 = 1 := by
    rw [BitVec.getLsbD, Nat.testBit_zero, decide_eq_true_iff]
  unfold lengthStage
  by_cases hodd : s.apu.fsStep.toNat % 2 = 1
  · have hstill : ¬ LengthCounts s ch := fun h => absurd (hodd.symm.trans h.1) (by decide)
    rw [if_pos (hbit.mpr hodd), lengthStaged, if_neg hstill, if_neg (fun h => hstill h.1)]
  · have heven : s.apu.fsStep.toNat % 2 = 0 := by omega
    rw [if_neg (mt hbit.mp hodd), lengthTicks_channel, lengthTicked, lengthStaged]
    simp only [LengthCounts, heven, true_and]

theorem lengthStage_apu (s : Board) :
    (lengthStage s).apu = { s.apu with ch1 := lengthStaged s .one, ch2 := lengthStaged s .two,
                                       ch3 := lengthStaged s .three, ch4 := lengthStaged s .four } := by
  have others : (lengthStage s).apu = { s.apu with
      ch1 := (lengthStage s).apu.ch1, ch2 := (lengthStage s).apu.ch2, ch3 := (lengthStage s).apu.ch3,
      ch4 := (lengthStage s).apu.ch4 } := by
    unfold lengthStage
    split
    · rfl
    · rw [lengthTicks_apu]
  rw [others, ← lengthStage_channel, ← lengthStage_channel, ← lengthStage_channel, ← lengthStage_channel]
  rfl

/-- The steps on which the sweep ticks. -/
abbrev SweepStep (step : BitVec 3) : Prop := step.toNat = 2 ∨ step.toNat = 6

theorem sweepStep_iff (step : BitVec 3) : step = 2 ∨ step = 6 ↔ SweepStep step := by
  revert step; decide

theorem sweepStage_apu (step : BitVec 3) (s : Board) :
    (sweepStage step s).apu = { s.apu with
      ch1 := { s.apu.ch1 with en := s.apu.ch1.en && !decide (SweepStep step ∧ SweepFails (rawRead s Io.nr10) s.apu.sweep) }
      sweep := if SweepStep step then sweepTicked (rawRead s Io.nr10) s.apu.sweep else s.apu.sweep } := by
  unfold sweepStage
  by_cases h : SweepStep step
  · rw [if_pos ((sweepStep_iff step).mpr h), if_pos h, sweepTick_apu, decide_eq_decide.mpr (and_iff_right h)]
  · rw [if_neg (mt (sweepStep_iff step).mp h), if_neg h, decide_eq_false (fun k => h k.1), Bool.not_false, Bool.and_true]

/-- An envelope after a tick: they tick on step 7. -/
def envelopeStaged (step : BitVec 3) (v : Envelope) (nrx2 : Byte) : Envelope := if step.toNat = 7 then v.tick nrx2 else v

theorem envelopeStage_apu (step : BitVec 3) (s : Board) :
    (envelopeStage step s).apu = { s.apu with
      env1 := envelopeStaged step s.apu.env1 (rawRead s Io.nr12), env2 := envelopeStaged step s.apu.env2 (rawRead s Io.nr22),
      env4 := envelopeStaged step s.apu.env4 (rawRead s Io.nr42) } := by
  have hstep : step = 7 ↔ step.toNat = 7 := by revert step; decide
  unfold envelopeStage envelopeStaged
  by_cases h : step.toNat = 7
  · simp only [if_pos h, if_pos (hstep.mpr h)]
    rfl
  · simp only [if_neg h, if_neg (mt hstep.mp h)]

/-- The check of a sweep tick switches channel 1 off in this tick. -/
abbrev TickFails (s : Board) : Prop := SweepStep s.apu.fsStep ∧ SweepFails (rawRead s Io.nr10) s.apu.sweep

/-- Everything a tick of the frame sequencer does to the hidden state. -/
theorem frameSequencerTick_apu (s : Board) :
    (frameSequencerTick s).apu = { s.apu with
      ch1 := { lengthStaged s .one with en := (lengthStaged s .one).en && !decide (TickFails s) }
      ch2 := lengthStaged s .two, ch3 := lengthStaged s .three, ch4 := lengthStaged s .four
      env1 := envelopeStaged s.apu.fsStep s.apu.env1 (rawRead s Io.nr12)
      env2 := envelopeStaged s.apu.fsStep s.apu.env2 (rawRead s Io.nr22)
      env4 := envelopeStaged s.apu.fsStep s.apu.env4 (rawRead s Io.nr42)
      sweep := if SweepStep s.apu.fsStep then sweepTicked (rawRead s Io.nr10) s.apu.sweep else s.apu.sweep
      fsStep := s.apu.fsStep + 1 } := by
  have kept {a : Word} (h : a ∉ [Io.nr13, Io.nr14, Io.nr52]) (h52 : a ∉ [Io.nr52]) :
      rawRead (sweepStage s.apu.fsStep (lengthStage s)) a = rawRead s a :=
    ((touches_sweepStage _ _).bytes a h).trans ((touches_lengthStage s).bytes a h52)
  rw [frameSequencerTick_eq, mapApu_apu, envelopeStage_apu, kept (by simp) (by simp), kept (by simp) (by simp),
    kept (by simp) (by simp), sweepStage_apu, (touches_lengthStage s).bytes Io.nr10 (by simp), lengthStage_apu]

theorem frameSequencerTick_channel (s : Board) (ch : Chan) :
    (frameSequencerTick s).apu.channel ch =
      { lengthStaged s ch with en := (lengthStaged s ch).en && !decide (ch = .one ∧ TickFails s) } := by
  rw [frameSequencerTick_apu]
  by_cases hone : ch = .one
  · rw [hone, decide_eq_decide.mpr (and_iff_right rfl)]
    rfl
  · have hkept : ¬ (ch = .one ∧ TickFails s) := fun h => hone h.1
    rw [decide_eq_false hkept, Bool.not_false, Bool.and_true]
    cases ch
    case one => exact absurd rfl hone
    all_goals rfl

theorem frameSequencerTick_envelope (s : Board) (ch : Chan) :
    (frameSequencerTick s).apu.envelope ch =
      (s.apu.envelope ch).map (fun v => envelopeStaged s.apu.fsStep v (rawRead s ch.nrx2)) := by
  rw [frameSequencerTick_apu]
  cases ch <;> rfl

/-- The sweep writes the new frequency in this tick. -/
abbrev TickStores (s : Board) : Prop := SweepStep s.apu.fsStep ∧ SweepStores (rawRead s Io.nr10) s.apu.sweep

/-- A tick writes NR13 and NR14 when the sweep stores, and no other register but NR52. -/
theorem frameSequencerTick_rawRead (s : Board) {a : Word} (h : a ≠ Io.nr52) :
    rawRead (frameSequencerTick s) a =
      if TickStores s then
        rawRead (sweepStore (BitVec.ofNat 11 (sweepTarget (rawRead s Io.nr10) s.apu.sweep.shadow.toNat)) (lengthStage s)) a
      else rawRead s a := by
  have lengths {b : Word} (hb : b ≠ Io.nr52) : rawRead (lengthStage s) b = rawRead s b :=
    (touches_lengthStage s).bytes b (by simpa using hb)
  have hsweep : (lengthStage s).apu.sweep = s.apu.sweep := by rw [lengthStage_apu]
  rw [frameSequencerTick_eq, mapApu_rawRead, (touches_envelopeStage _ _).bytes a List.not_mem_nil, sweepStage]
  by_cases hstep : SweepStep s.apu.fsStep
  · rw [if_pos ((sweepStep_iff _).mpr hstep), sweepTick_rawRead _ h, hsweep, lengths (by decide), lengths h]
    simp only [TickStores, hstep, true_and]
  · rw [if_neg (mt (sweepStep_iff _).mp hstep), if_neg (fun k => hstep k.1), lengths h]

/-! ## The counter of the frame sequencer stands apart (R420) -/

/-- `s` with the frame sequencer's cycle counter at `n`. -/
def withFsAcc (n : Nat) (s : Board) : Board := mapApu (fun p => { p with fsAcc := n }) s

section
variable (n : Nat) (ch : Chan) (s : Board)

theorem withFsAcc_channel : (withFsAcc n s).apu.channel ch = s.apu.channel ch := by cases ch <;> rfl

theorem setEnabled_withFsAcc (b : Bool) : setEnabled ch b (withFsAcc n s) = withFsAcc n (setEnabled ch b s) := by
  cases ch <;> rfl

theorem setLen_withFsAcc (k : Nat) : setLen ch k (withFsAcc n s) = withFsAcc n (setLen ch k s) := by cases ch <;> rfl

theorem lengthTick_withFsAcc : lengthTick ch (withFsAcc n s) = withFsAcc n (lengthTick ch s) := by
  unfold lengthTick
  simp only [withFsAcc_channel, setLen_withFsAcc, setEnabled_withFsAcc, apply_ite (withFsAcc n)]
  rfl

theorem sweepCheck_withFsAcc : sweepCheck (withFsAcc n s) = withFsAcc n (sweepCheck s) := by
  unfold sweepCheck
  simp only [setEnabled_withFsAcc, apply_ite (withFsAcc n)]
  rfl

theorem sweepStore_withFsAcc (new : BitVec 11) : sweepStore new (withFsAcc n s) = withFsAcc n (sweepStore new s) := rfl

theorem sweepTick_withFsAcc : sweepTick (withFsAcc n s) = withFsAcc n (sweepTick s) := by
  have timed : sweepTimed (withFsAcc n s) = withFsAcc n (sweepTimed s) := rfl
  rw [sweepTick_eq, sweepTick_eq, timed]
  simp only [sweepCheck_withFsAcc, sweepStore_withFsAcc, apply_ite (withFsAcc n)]
  rfl

theorem envelopeTick_withFsAcc : envelopeTick ch (withFsAcc n s) = withFsAcc n (envelopeTick ch s) := by cases ch <;> rfl

theorem lengthStage_withFsAcc : lengthStage (withFsAcc n s) = withFsAcc n (lengthStage s) := by
  unfold lengthStage lengthTicks
  simp only [lengthTick_withFsAcc, apply_ite (withFsAcc n)]
  rfl

theorem sweepStage_withFsAcc (step : BitVec 3) : sweepStage step (withFsAcc n s) = withFsAcc n (sweepStage step s) := by
  unfold sweepStage
  simp only [sweepTick_withFsAcc, apply_ite (withFsAcc n)]

theorem envelopeStage_withFsAcc (step : BitVec 3) :
    envelopeStage step (withFsAcc n s) = withFsAcc n (envelopeStage step s) := by
  unfold envelopeStage
  simp only [envelopeTick_withFsAcc, apply_ite (withFsAcc n)]

theorem frameSequencerTick_withFsAcc : frameSequencerTick (withFsAcc n s) = withFsAcc n (frameSequencerTick s) := by
  have step : (withFsAcc n s).apu.fsStep = s.apu.fsStep := rfl
  rw [frameSequencerTick_eq, frameSequencerTick_eq, step, lengthStage_withFsAcc, sweepStage_withFsAcc,
    envelopeStage_withFsAcc]
  rfl

end

end Sys2Proof.Machine
end

section
/-! The exceptions family (spec/60_exceptions.md), one cycle of the APU: the frame sequencer's counter, the four
generators, the downsampler (R414 to R416, R420, R430). -/

namespace Sys2Proof.Machine

/-! ## One generator (R414 to R416) -/

/-- The channel's timer runs out in this cycle. -/
abbrev RunsOut (s : Board) (ch : Chan) : Prop := (s.apu.channel ch).timer ≤ 1

/-- A channel after one cycle of its timer. -/
def timerTicked (s : Board) (ch : Chan) : Channel :=
  { s.apu.channel ch with timer := if RunsOut s ch then period s ch else (s.apu.channel ch).timer - 1 }

section
variable (s : Board)

theorem timerCycle_one_apu :
    (timerCycle .one s).apu =
      { s.apu with ch1 := timerTicked s .one, duty1 := if RunsOut s .one then s.apu.duty1 + 1 else s.apu.duty1 } := by
  rw [timerCycle_apu, timerTicked]
  by_cases h : RunsOut s .one
  · simp only [if_pos h]; rfl
  · simp only [if_neg h]; rfl

theorem timerCycle_two_apu :
    (timerCycle .two s).apu =
      { s.apu with ch2 := timerTicked s .two, duty2 := if RunsOut s .two then s.apu.duty2 + 1 else s.apu.duty2 } := by
  rw [timerCycle_apu, timerTicked]
  by_cases h : RunsOut s .two
  · simp only [if_pos h]; rfl
  · simp only [if_neg h]; rfl

theorem timerCycle_three_apu :
    (timerCycle .three s).apu =
      { s.apu with ch3 := timerTicked s .three, pos3 := if RunsOut s .three then s.apu.pos3 + 1 else s.apu.pos3 } := by
  rw [timerCycle_apu, timerTicked]
  by_cases h : RunsOut s .three
  · simp only [if_pos h]; rfl
  · simp only [if_neg h]; rfl

theorem timerCycle_four_apu :
    (timerCycle .four s).apu =
      { s.apu with
        ch4 := timerTicked s .four
        lfsr := if RunsOut s .four then lfsrNext ((rawRead s Io.nr43).getLsbD 3) s.apu.lfsr else s.apu.lfsr } := by
  rw [timerCycle_apu, timerTicked]
  by_cases h : RunsOut s .four
  · simp only [if_pos h]; rfl
  · simp only [if_neg h]; rfl

theorem timerCycle_channel (ch c : Chan) :
    (timerCycle ch s).apu.channel c = if c = ch then timerTicked s ch else s.apu.channel c := by
  rw [← Apu.channel_setChannel, timerCycle_apu, timerTicked]
  dsimp only
  split
  · cases ch <;> cases c <;> rfl
  · rfl

/-- A generator leaves the other channels. -/
theorem timerCycle_channel_other {c ch : Chan} (h : c ≠ ch) : (timerCycle ch s).apu.channel c = s.apu.channel c :=
  (timerCycle_channel s ch c).trans (if_neg h)

theorem runsOut_timerCycle_other {c ch : Chan} (h : c ≠ ch) : RunsOut (timerCycle ch s) c ↔ RunsOut s c := by
  rw [RunsOut, timerCycle_channel_other s h]

theorem timerTicked_timerCycle_other {c ch : Chan} (h : c ≠ ch) : timerTicked (timerCycle ch s) c = timerTicked s c := by
  have hperiod : period (timerCycle ch s) c = period s c :=
    period_congr c (rawRead_timerCycle ch s _) (rawRead_timerCycle ch s _)
  unfold timerTicked
  simp only [runsOut_timerCycle_other s h, timerCycle_channel_other s h, hperiod]

/-- The four generators of a cycle. -/
def timerCycles : Board := timerCycle .four (timerCycle .three (timerCycle .two (timerCycle .one s)))

theorem timerCycles_apu :
    (timerCycles s).apu = { s.apu with
      ch1 := timerTicked s .one, ch2 := timerTicked s .two, ch3 := timerTicked s .three, ch4 := timerTicked s .four
      duty1 := if RunsOut s .one then s.apu.duty1 + 1 else s.apu.duty1
      duty2 := if RunsOut s .two then s.apu.duty2 + 1 else s.apu.duty2
      pos3 := if RunsOut s .three then s.apu.pos3 + 1 else s.apu.pos3
      lfsr := if RunsOut s .four then lfsrNext ((rawRead s Io.nr43).getLsbD 3) s.apu.lfsr else s.apu.lfsr } := by
  simp (disch := decide) only [timerCycles, timerCycle_four_apu, timerCycle_three_apu, timerCycle_two_apu, timerCycle_one_apu,
    timerTicked_timerCycle_other, runsOut_timerCycle_other, rawRead_timerCycle]

theorem timerCycles_rawRead (a : Word) : rawRead (timerCycles s) a = rawRead s a := by
  simp only [timerCycles, rawRead_timerCycle]

end

/-- The shift of the noise generator, bit by bit (R416). -/
theorem lfsrNext_getLsbD (short : Bool) (r : BitVec 15) {i : Nat} (hi : i < 15) :
    (lfsrNext short r).getLsbD i =
      if i = 14 ∨ i = 6 ∧ short = true then r.getLsbD 0 ^^ r.getLsbD 1 else r.getLsbD (i + 1) := by
  let x := r.getLsbD 0 ^^ r.getLsbD 1
  let shifted : BitVec 15 := BitVec.ofBool x ++ r.extractLsb' 1 14
  have hbit : (BitVec.ofBool x).getLsbD 0 = x := by cases x <;> rfl
  have join {m n : Nat} (y : BitVec m) (z : BitVec n) (j : Nat) :
      (y ++ z).getLsbD j = if j < n then z.getLsbD j else y.getLsbD (j - n) := BitVec.getLsbD_append
  have hshifted : shifted.getLsbD i = if i = 14 then x else r.getLsbD (i + 1) := by
    rw [join]
    by_cases h14 : i = 14
    · rw [if_neg (by omega), if_pos h14, h14, hbit]
    · have hlt : i < 14 := by omega
      rw [if_pos hlt, if_neg h14, BitVec.getLsbD_extractLsb', decide_eq_true hlt, Bool.true_and, Nat.add_comm]
  cases short
  · have hlong : (i = 14 ∨ i = 6 ∧ false = true) ↔ i = 14 := by simp
    rw [if_congr hlong rfl rfl, ← hshifted]
    rfl
  · have hnext : lfsrNext true r = (shifted.extractLsb' 7 8 ++ BitVec.ofBool x) ++ shifted.extractLsb' 0 6 := rfl
    rw [hnext, join, join]
    by_cases h6 : i = 6
    · rw [if_neg (by omega), if_pos (by omega), if_pos (.inr ⟨h6, rfl⟩), h6, hbit]
    · have hkept : (i = 14 ∨ i = 6 ∧ true = true) ↔ i = 14 := by simp [h6]
      rw [if_congr hkept rfl rfl, ← hshifted]
      by_cases hlow : i < 6
      · rw [if_pos hlow, BitVec.getLsbD_extractLsb', decide_eq_true hlow, Bool.true_and, Nat.zero_add]
      · have hhigh : i - 6 - 1 < 8 := by omega
        have hindex : 7 + (i - 6 - 1) = i := by omega
        rw [if_neg hlow, if_neg (by omega), BitVec.getLsbD_extractLsb', decide_eq_true hhigh, Bool.true_and, hindex]

/-! ## One cycle (R420) -/

/-- The board after the frame sequencer's part of a powered cycle. -/
def sequenced (s : Board) : Board := if s.apu.fsAcc + 1 = 8192 then frameSequencerTick s else s

/-- The frame sequencer's cycle counter after a powered cycle. -/
def fsAccTicked (s : Board) : Nat := if s.apu.fsAcc + 1 = 8192 then 0 else s.apu.fsAcc + 1

theorem apuPoweredCycle_eq (s : Board) :
    apuPoweredCycle s = timerCycles (withFsAcc (fsAccTicked s) (sequenced s)) := by
  unfold fsAccTicked sequenced
  by_cases h : s.apu.fsAcc + 1 = 8192
  · rw [if_pos h, if_pos h, ← frameSequencerTick_withFsAcc]
    exact congrArg timerCycles (if_pos h)
  · rw [if_neg h, if_neg h]
    exact congrArg timerCycles (if_neg h)

/-- The frame sequencer leaves the downsampler's state. -/
theorem sequenced_sampler (s : Board) :
    (sequenced s).apu.dsAcc = s.apu.dsAcc ∧ (sequenced s).apu.samples = s.apu.samples := by
  unfold sequenced
  split
  · rw [frameSequencerTick_apu]
    exact ⟨rfl, rfl⟩
  · exact ⟨rfl, rfl⟩

/-- A cycle but for the downsampler. -/
def generated (s : Board) : Board := if apuPowered s = true then apuPoweredCycle s else s

theorem apuStep_one (s : Board) : apuStep 1 s = downsampleCycle (generated s) := rfl

theorem generated_on {s : Board} (h : apuPowered s = true) :
    generated s = timerCycles (withFsAcc (fsAccTicked s) (sequenced s)) := (if_pos h).trans (apuPoweredCycle_eq s)

theorem generated_off {s : Board} (h : apuPowered s = false) : generated s = s := if_neg (ne_true_of_eq_false h)

theorem generated_sampler (s : Board) :
    (generated s).apu.dsAcc = s.apu.dsAcc ∧ (generated s).apu.samples = s.apu.samples ∧ (generated s).params = s.params := by
  refine ⟨?_, ?_, ?_⟩
  · cases h : apuPowered s
    · rw [generated_off h]
    · rw [generated_on h, timerCycles_apu]
      exact (sequenced_sampler s).1
  · cases h : apuPowered s
    · rw [generated_off h]
    · rw [generated_on h, timerCycles_apu]
      exact (sequenced_sampler s).2
  · exact (Touches.ite (fun _ => touches_apuPoweredCycle s) fun _ => Touches.refl s).params

/-- The downsampler counts, or pushes the sample of this moment (R430). -/
theorem downsampleCycle_full {s : Board} (h : s.apu.dsAcc + 1 = s.params.apuDownsample) :
    downsampleCycle s = mapApu (fun p => { p with dsAcc := 0, samples := currentSample s :: p.samples }) s := if_pos h

theorem downsampleCycle_count {s : Board} (h : s.apu.dsAcc + 1 ≠ s.params.apuDownsample) :
    downsampleCycle s = mapApu (fun p => { p with dsAcc := s.apu.dsAcc + 1 }) s := if_neg h

/-- The downsampler's own state is not heard. -/
theorem currentSample_downsampleCycle (s : Board) : currentSample (downsampleCycle s) = currentSample s := by
  unfold downsampleCycle
  dsimp only
  split <;> rfl

theorem downsampleCycle_apu (s : Board) :
    (downsampleCycle s).apu =
      { s.apu with dsAcc := (downsampleCycle s).apu.dsAcc, samples := (downsampleCycle s).apu.samples } := by
  unfold downsampleCycle
  dsimp only
  split <;> rfl

theorem downsampleCycle_rawRead (s : Board) (a : Word) : rawRead (downsampleCycle s) a = rawRead s a :=
  (touches_downsampleCycle (l := []) (tim := false) (vid := false) s).bytes a List.not_mem_nil

end Sys2Proof.Machine
end

section
/-! The exceptions family (spec/60_exceptions.md), the sound channels: trigger, length counter, frame sequencer, one
cycle, digital output (R403, R406 to R421). -/

namespace Sys2Proof.Machine

/-! ## The write of NRx4 that triggers -/

section
variable (s : Board) (ch : Chan) (v : Byte)

/-- The frequency a trigger starts with: that of the byte just written. -/
theorem freq_rawWrite_nrx4 :
    (freq (rawWrite s ch.nrx4 v) ch).toNat = 256 * (v.toNat % 8) + (rawRead s ch.nrx3).toNat := by
  rw [freq_toNat, rawRead_rawWrite_same, rawRead_rawWrite_other s v ch.nrx3_ne_nrx4]

theorem dacEnabled_rawWrite_nrx4 :
    dacEnabled (rawWrite s ch.nrx4 v) ch =
      if ch = .three then (rawRead s Io.nr30).getLsbD 7 else decide (8 ≤ (rawRead s ch.nrx2).toNat) := by
  have h30 : Io.nr30 ≠ ch.nrx4 := by cases ch <;> decide
  rw [dacEnabled_eq, rawRead_rawWrite_other s v h30, rawRead_rawWrite_other s v ch.nrx2_ne_nrx4]

theorem nr10_rawWrite_nrx4 : rawRead (rawWrite s ch.nrx4 v) Io.nr10 = rawRead s Io.nr10 :=
  rawRead_rawWrite_other s v (by cases ch <;> decide)

/-- Channel 1's check at the trigger, in the numbers of the write. -/
theorem triggerOverflows_rawWrite_nrx4 :
    (decide (ch = .one) && triggerOverflows (rawWrite s ch.nrx4 v)) =
      decide (ch = .one ∧ (rawRead s Io.nr10).toNat % 8 ≠ 0 ∧
        2047 < sweepTarget (rawRead s Io.nr10) (256 * (v.toNat % 8) + (rawRead s ch.nrx3).toNat)) := by
  rw [Bool.decide_and]
  by_cases hone : ch = .one
  · subst hone
    rw [triggerOverflows, nr10_rawWrite_nrx4, freq_rawWrite_nrx4]
  · rw [decide_eq_false hone, Bool.false_and, Bool.false_and]

theorem startedSweep_rawWrite_nr14 :
    startedSweep (rawWrite s Io.nr14 v) =
      ⟨BitVec.ofNat 11 (256 * (v.toNat % 8) + (rawRead s Io.nr13).toNat), sweepPeriod (rawRead s Io.nr10),
        decide (rawRead s Io.nr10 &&& 0x77 ≠ 0)⟩ := by
  have hfreq : freq (rawWrite s Io.nr14 v) .one = BitVec.ofNat 11 (256 * (v.toNat % 8) + (rawRead s Io.nr13).toNat) := by
    have hnumber : (freq (rawWrite s Io.nr14 v) .one).toNat = 256 * (v.toNat % 8) + (rawRead s Io.nr13).toNat :=
      freq_rawWrite_nrx4 s .one v
    rw [← hnumber, BitVec.ofNat_toNat, BitVec.setWidth_eq]
  have hnr10 : rawRead (rawWrite s Io.nr14 v) Io.nr10 = rawRead s Io.nr10 := nr10_rawWrite_nrx4 s .one v
  rw [startedSweep, hfreq, hnr10]

/-- The write that triggers, in the channel itself. -/
theorem trigger_rawWrite_channel :
    (trigger ch (rawWrite s ch.nrx4 v)).apu.channel ch =
      ⟨(if ch = .three then (rawRead s Io.nr30).getLsbD 7 else decide (8 ≤ (rawRead s ch.nrx2).toNat)) &&
          !decide (ch = .one ∧ (rawRead s Io.nr10).toNat % 8 ≠ 0 ∧
            2047 < sweepTarget (rawRead s Io.nr10) (256 * (v.toNat % 8) + (rawRead s ch.nrx3).toNat)),
        periodNat (trigger ch (rawWrite s ch.nrx4 v)) ch,
        if (s.apu.channel ch).len = 0 then (if ch = .three then 256 else 64) else (s.apu.channel ch).len⟩ := by
  have hfull : fullLength ch = if ch = .three then 256 else 64 := by cases ch <;> rfl
  rw [← period_eq, trigger_period, trigger_channel, dacEnabled_rawWrite_nrx4, triggerOverflows_rawWrite_nrx4, hfull]
  rfl

/-- The registers after the write that triggers: NRx4 holds the byte, and but for NR52 no other changes. -/
theorem trigger_rawWrite_nrx4 : rawRead (trigger ch (rawWrite s ch.nrx4 v)) ch.nrx4 = v :=
  ((touches_trigger ch _).bytes _ (by simpa using ch.nrx4_ne_nr52)).trans (rawRead_rawWrite_same _ _ _)

theorem trigger_rawWrite_other {a : Word} (h4 : a ≠ ch.nrx4) (h52 : a ≠ Io.nr52) :
    rawRead (trigger ch (rawWrite s ch.nrx4 v)) a = rawRead s a :=
  ((touches_trigger ch _).bytes a (by simpa using h52)).trans (rawRead_rawWrite_other _ _ h4)

/-- The write that triggers starts the channel's envelope; channel 3 has none. -/
theorem trigger_rawWrite_envelope (h : ch ≠ .three) :
    (trigger ch (rawWrite s ch.nrx4 v)).apu.envelope ch = some (startedEnvelope (rawRead s ch.nrx2)) := by
  rw [trigger_envelope, if_pos rfl, rawRead_rawWrite_other s v ch.nrx2_ne_nrx4]
  cases ch
  case three => exact absurd rfl h
  all_goals rfl

theorem trigger_rawWrite_sweep :
    (trigger ch (rawWrite s ch.nrx4 v)).apu.sweep =
      if ch = .one then
        ⟨BitVec.ofNat 11 (256 * (v.toNat % 8) + (rawRead s ch.nrx3).toNat), sweepPeriod (rawRead s Io.nr10),
          decide (rawRead s Io.nr10 &&& 0x77 ≠ 0)⟩
      else s.apu.sweep := by
  rw [trigger_sweep]
  by_cases hone : ch = .one
  · subst hone
    exact startedSweep_rawWrite_nr14 s v
  · rw [if_neg hone, if_neg hone]
    rfl

end

/-! ## The length tick (R411) -/

theorem lengthTick_counts {s : Board} {ch : Chan} (h6 : (rawRead s ch.nrx4).getLsbD 6 = true) :
    ((lengthTick ch s).apu.channel ch).len = (s.apu.channel ch).len - 1 ∧
    ((lengthTick ch s).apu.channel ch).en = if (s.apu.channel ch).len = 1 then false else (s.apu.channel ch).en := by
  rw [lengthTick_apu_eq, Apu.channel_setChannel, if_pos rfl, lengthTicked, if_pos h6]
  exact ⟨rfl, if_congr (and_iff_right h6) rfl rfl⟩

/-! ## The frame sequencer's tick (R411 to R413, R421) -/

/-- The sweep runs in this tick. -/
abbrev TickSweeps (s : Board) : Prop := SweepStep s.apu.fsStep ∧ SweepRuns (rawRead s Io.nr10) s.apu.sweep

/-- `TickStores`, with the conditions of the sweep's run gathered. -/
abbrev TickSweepsInRange (s : Board) : Prop :=
  TickSweeps s ∧ sweepTarget (rawRead s Io.nr10) s.apu.sweep.shadow.toNat ≤ 2047 ∧ (rawRead s Io.nr10).toNat % 8 ≠ 0

theorem tickStores_iff (s : Board) : TickStores s ↔ TickSweepsInRange s := and_assoc.symm

/-- `TickFails`, with the conditions of the sweep's run gathered: the new frequency or the one after it is too high. -/
abbrev TickTooHigh (s : Board) : Prop :=
  TickSweeps s ∧ 2047 < sweepTarget (rawRead s Io.nr10) s.apu.sweep.shadow.toNat ∨
    TickSweepsInRange s ∧ 2047 < sweepTarget (rawRead s Io.nr10) (sweepTarget (rawRead s Io.nr10) s.apu.sweep.shadow.toNat)

theorem tickFails_iff (s : Board) : TickFails s ↔ TickTooHigh s :=
  and_or_left.trans (or_congr and_assoc.symm (and_assoc.symm.trans (and_congr_left' (tickStores_iff s))))

section
variable {s : Board}

theorem tick_channel_timer (s : Board) (ch : Chan) :
    ((frameSequencerTick s).apu.channel ch).timer = (s.apu.channel ch).timer := by
  rw [frameSequencerTick_channel]
  rfl

theorem tick_channel_len (s : Board) (ch : Chan) :
    ((frameSequencerTick s).apu.channel ch).len =
      if LengthCounts s ch then (s.apu.channel ch).len - 1 else (s.apu.channel ch).len := by
  rw [frameSequencerTick_channel]
  rfl

theorem tick_channel_en (s : Board) (ch : Chan) :
    ((frameSequencerTick s).apu.channel ch).en =
      if LengthCounts s ch ∧ (s.apu.channel ch).len = 1 ∨ ch = .one ∧ TickTooHigh s then false
      else (s.apu.channel ch).en := by
  rw [frameSequencerTick_channel, lengthStaged, decide_eq_decide.mpr (and_congr_right' (tickFails_iff s))]
  dsimp only
  by_cases hlen : LengthCounts s ch ∧ (s.apu.channel ch).len = 1
  · rw [if_pos hlen, if_pos (.inl hlen), Bool.false_and]
  · rw [if_neg hlen]
    by_cases hfails : ch = .one ∧ TickTooHigh s
    · rw [decide_eq_true hfails, if_pos (.inr hfails), Bool.not_true, Bool.and_false]
    · rw [decide_eq_false hfails, if_neg (not_or_intro hlen hfails), Bool.not_false, Bool.and_true]

theorem tick_sweep_on (s : Board) : (frameSequencerTick s).apu.sweep.on = s.apu.sweep.on := by
  rw [frameSequencerTick_apu]
  dsimp only
  split <;> rfl

theorem tick_sweep_timer (s : Board) :
    (frameSequencerTick s).apu.sweep.timer =
      if SweepStep s.apu.fsStep then sweepTimer (rawRead s Io.nr10) s.apu.sweep else s.apu.sweep.timer := by
  rw [frameSequencerTick_apu]
  dsimp only
  split <;> rfl

theorem tick_sweep_shadow (s : Board) :
    (frameSequencerTick s).apu.sweep.shadow =
      if TickStores s then BitVec.ofNat 11 (sweepTarget (rawRead s Io.nr10) s.apu.sweep.shadow.toNat)
      else s.apu.sweep.shadow := by
  rw [frameSequencerTick_apu]
  dsimp only
  by_cases hstep : SweepStep s.apu.fsStep
  · rw [if_pos hstep]
    exact if_congr (and_iff_right hstep).symm rfl rfl
  · rw [if_neg hstep, if_neg (fun h => hstep h.1)]

/-- A tick whose sweep stores: shadow, NR13 and the low bits of NR14 show the new frequency. -/
theorem tick_stores (h : TickStores s) :
    let new := sweepTarget (rawRead s Io.nr10) s.apu.sweep.shadow.toNat
    (frameSequencerTick s).apu.sweep.shadow.toNat = new ∧ (rawRead (frameSequencerTick s) Io.nr13).toNat = new % 256 ∧
    (rawRead (frameSequencerTick s) Io.nr14).toNat = 8 * ((rawRead s Io.nr14).toNat / 8) + new / 256 := by
  intro new
  have hnew : (BitVec.ofNat 11 new).toNat = new := Nat.mod_eq_of_lt (Nat.lt_succ_of_le h.2.2.1)
  have hnr14 : rawRead (lengthStage s) Io.nr14 = rawRead s Io.nr14 := (touches_lengthStage s).bytes _ (by simp)
  refine ⟨?_, ?_, ?_⟩
  · rw [tick_sweep_shadow, if_pos h, hnew]
  · rw [frameSequencerTick_rawRead s (by decide), if_pos h, sweepStore_nr13, hnew]
  · rw [frameSequencerTick_rawRead s (by decide), if_pos h, sweepStore_nr14, hnew, hnr14]

theorem tick_keeps (h : ¬ TickStores s) :
    (frameSequencerTick s).apu.sweep.shadow = s.apu.sweep.shadow ∧
    rawRead (frameSequencerTick s) Io.nr13 = rawRead s Io.nr13 ∧
    rawRead (frameSequencerTick s) Io.nr14 = rawRead s Io.nr14 :=
  ⟨(tick_sweep_shadow s).trans (if_neg h), (frameSequencerTick_rawRead s (by decide)).trans (if_neg h),
    (frameSequencerTick_rawRead s (by decide)).trans (if_neg h)⟩

/-- Off step 7 a tick leaves the envelopes. -/
theorem tick_envelope_still (h : s.apu.fsStep.toNat ≠ 7) (ch : Chan) :
    (frameSequencerTick s).apu.envelope ch = s.apu.envelope ch := by
  have hstaged (nrx2 : Byte) : (fun v => envelopeStaged s.apu.fsStep v nrx2) = id := funext fun v => if_neg h
  rw [frameSequencerTick_envelope, hstaged, Option.map_id, id]

theorem tick_envelope_seven (h : s.apu.fsStep.toNat = 7) {ch : Chan} {v : Envelope} (hv : s.apu.envelope ch = some v) :
    (frameSequencerTick s).apu.envelope ch = some (v.tick (rawRead s ch.nrx2)) := by
  rw [frameSequencerTick_envelope, hv]
  exact congrArg some (if_pos h)

end

/-! ## One cycle (R414 to R416, R420, R430) -/

section
variable {s : Board}

/-- The board on which the generators of a cycle run: only a powered cycle has a frame sequencer. -/
def cycleBase (s : Board) : Board := if apuPowered s = true ∧ s.apu.fsAcc + 1 = 8192 then frameSequencerTick s else s

theorem cycleBase_on (h : apuPowered s = true) : cycleBase s = sequenced s := if_congr (and_iff_right h) rfl rfl

theorem apuStep_one_rawRead (s : Board) (a : Word) : rawRead (apuStep 1 s) a = rawRead (cycleBase s) a := by
  rw [apuStep_one, downsampleCycle_rawRead]
  cases h : apuPowered s
  · have hbase : cycleBase s = s := if_neg (fun k => Bool.false_ne_true (h.symm.trans k.1))
    rw [generated_off h, hbase]
  · rw [generated_on h, timerCycles_rawRead, cycleBase_on h]
    rfl

theorem apuStep_one_full (h : s.apu.dsAcc + 1 = s.params.apuDownsample) :
    (apuStep 1 s).apu.dsAcc = 0 ∧ (apuStep 1 s).apu.samples = currentSample (apuStep 1 s) :: s.apu.samples := by
  obtain ⟨hacc, hsamples, hparams⟩ := generated_sampler s
  have hfull : (generated s).apu.dsAcc + 1 = (generated s).params.apuDownsample := by rw [hacc, hparams, h]
  rw [apuStep_one, currentSample_downsampleCycle, downsampleCycle_full hfull, ← hsamples]
  exact ⟨rfl, rfl⟩

theorem apuStep_one_count (h : s.apu.dsAcc + 1 ≠ s.params.apuDownsample) :
    (apuStep 1 s).apu.dsAcc = s.apu.dsAcc + 1 ∧ (apuStep 1 s).apu.samples = s.apu.samples := by
  obtain ⟨hacc, hsamples, hparams⟩ := generated_sampler s
  have hcount : (generated s).apu.dsAcc + 1 ≠ (generated s).params.apuDownsample := by rwa [hacc, hparams]
  rw [apuStep_one, downsampleCycle_count hcount, ← hsamples, ← hacc]
  exact ⟨rfl, rfl⟩

/-- With the power off the channels stand still. -/
theorem apuStep_one_off (h : apuPowered s = false) :
    (apuStep 1 s).apu = { s.apu with dsAcc := (apuStep 1 s).apu.dsAcc, samples := (apuStep 1 s).apu.samples } := by
  have hstep : apuStep 1 s = downsampleCycle s := by rw [apuStep_one, generated_off h]
  rw [hstep]
  exact downsampleCycle_apu s

/-- Everything a powered cycle does to the hidden state. -/
theorem apuStep_one_on (h : apuPowered s = true) :
    let u := cycleBase s
    (apuStep 1 s).apu = { u.apu with
      fsAcc := fsAccTicked s
      ch1 := timerTicked u .one, ch2 := timerTicked u .two, ch3 := timerTicked u .three, ch4 := timerTicked u .four
      duty1 := if RunsOut u .one then u.apu.duty1 + 1 else u.apu.duty1
      duty2 := if RunsOut u .two then u.apu.duty2 + 1 else u.apu.duty2
      pos3 := if RunsOut u .three then u.apu.pos3 + 1 else u.apu.pos3
      lfsr := if RunsOut u .four then lfsrNext ((rawRead u Io.nr43).getLsbD 3) u.apu.lfsr else u.apu.lfsr
      dsAcc := (apuStep 1 s).apu.dsAcc, samples := (apuStep 1 s).apu.samples } := by
  intro u
  have hgenerated : (generated s).apu = (timerCycles (withFsAcc (fsAccTicked s) u)).apu := by
    rw [generated_on h, ← cycleBase_on h]
  rw [timerCycles_apu] at hgenerated
  have hstep := downsampleCycle_apu (generated s)
  rw [hgenerated, ← apuStep_one] at hstep
  exact hstep

theorem apuStep_one_channel (h : apuPowered s = true) (ch : Chan) :
    (apuStep 1 s).apu.channel ch = timerTicked (cycleBase s) ch := by
  rw [apuStep_one_on h]
  cases ch <;> rfl

theorem apuStep_one_envelope (h : apuPowered s = true) (ch : Chan) :
    (apuStep 1 s).apu.envelope ch = (cycleBase s).apu.envelope ch := by
  rw [apuStep_one_on h]
  cases ch <;> rfl

/-- A position that moves on when `p`, in numbers. -/
theorem toNat_ite_succ {n : Nat} {p : Prop} [Decidable p] {x y : BitVec n} (h : y = if p then x + 1 else x) (hp : p) :
    y.toNat = (x.toNat + (1 : BitVec n).toNat) % 2 ^ n := by
  rw [h, if_pos hp, BitVec.toNat_add]

theorem timerTicked_runsOut {u : Board} {ch : Chan} (h : RunsOut u ch) :
    timerTicked u ch = { u.apu.channel ch with timer := periodNat u ch } := by
  rw [timerTicked, if_pos h, period_eq]

theorem timerTicked_counts {u : Board} {ch : Chan} (h : ¬ RunsOut u ch) :
    timerTicked u ch = { u.apu.channel ch with timer := (u.apu.channel ch).timer - 1 } := by
  rw [timerTicked, if_neg h]

end

/-- A tick of the frame sequencer leaves the generators and its cycle counter, and moves its step on. -/
theorem tick_rest (s : Board) :
    let t := frameSequencerTick s
    t.apu.fsStep.toNat = (s.apu.fsStep.toNat + 1) % 8 ∧ t.apu.fsAcc = s.apu.fsAcc ∧ t.apu.duty1 = s.apu.duty1 ∧
    t.apu.duty2 = s.apu.duty2 ∧ t.apu.pos3 = s.apu.pos3 ∧ t.apu.lfsr = s.apu.lfsr := by
  dsimp only
  rw [frameSequencerTick_apu]
  exact ⟨BitVec.toNat_add _ _, rfl, rfl, rfl, rfl, rfl⟩

/-- Settles O49: a trigger, a length tick, a tick of the frame sequencer, a cycle and the digital output, each from the
equation of its operation. -/
theorem triggerAndLengthCounter : Obligations.TriggerAndLengthCounter := by
  unfold Obligations.TriggerAndLengthCounter
  refine ⟨?trigger, ?lengthTick, ?frameSequencer, ?cycle, ?output⟩
  case trigger =>
    intro s ch v hon hv
    obtain ⟨hduty1, hduty2, hpos3, hlfsr, hstep, hacc⟩ := trigger_positions ch (rawWrite s ch.nrx4 v)
    have hchannel := trigger_rawWrite_channel s ch v
    dsimp only
    rw [memWrite_nrx4_trigger ch hon hv]
    refine ⟨hchannel, trigger_rawWrite_nrx4 s ch v, ?_, fun a h4 h52 => trigger_rawWrite_other s ch v h4 h52, fun c hc => ?_,
      trigger_rawWrite_envelope s ch v, trigger_rawWrite_sweep s ch v, hduty1, hduty2, hpos3, hlfsr, hstep, hacc⟩
    · exact (showsSwitch_trigger ch _).trans (congrArg Channel.en hchannel)
    · exact ⟨trigger_channel_other ch _ hc, (trigger_envelope ch _ c).trans (if_neg hc)⟩
  case lengthTick =>
    exact fun s ch => ⟨fun h6 _ => lengthTick_counts h6, fun h => if_neg h⟩
  case frameSequencer =>
    intro s
    obtain ⟨hstep, hacc, hduty1, hduty2, hpos3, hlfsr⟩ := tick_rest s
    refine ⟨hstep, hacc, fun ch => ?_, tick_envelope_still, fun h7 ch v hv => ?_, tick_sweep_on s, tick_sweep_timer s,
      fun h => tick_stores ((tickStores_iff s).mpr h), fun h => tick_keeps (mt (tickStores_iff s).mp h),
      hduty1, hduty2, hpos3, hlfsr, fun a h13 h14 h52 => (touches_frameSequencerTick s).bytes a ?_⟩
    · exact ⟨tick_channel_timer s ch, fun h => (tick_channel_len s ch).trans (if_pos h),
        fun h => (tick_channel_len s ch).trans (if_neg h),
        fun h => (tick_channel_en s ch).trans (if_pos h), fun h => (tick_channel_en s ch).trans (if_neg h)⟩
    · exact ⟨_, tick_envelope_seven h7 hv, Envelope.tick_still, Envelope.tick_count, Envelope.tick_move⟩
    · simpa using And.intro h13 (And.intro h14 h52)
  case cycle =>
    intro s t u full
    have hu : u = cycleBase s := rfl
    clear_value u
    subst hu
    refine ⟨apuStep_one_rawRead s, apuStep_one_full, apuStep_one_count, apuStep_one_off, fun hon => ?_⟩
    have hapu := apuStep_one_on hon
    have hstep := congrArg Apu.fsStep hapu
    have hsweep := congrArg Apu.sweep hapu
    have hduty1 := congrArg Apu.duty1 hapu
    have hduty2 := congrArg Apu.duty2 hapu
    have hpos3 := congrArg Apu.pos3 hapu
    have hlfsr := congrArg Apu.lfsr hapu
    refine ⟨congrArg Apu.fsAcc hapu, hstep, hsweep, fun ch => ⟨apuStep_one_envelope hon ch,
      (apuStep_one_channel hon ch).trans ∘ timerTicked_runsOut, (apuStep_one_channel hon ch).trans ∘ timerTicked_counts⟩,
      toNat_ite_succ hduty1, fun h => hduty1.trans (if_neg h), toNat_ite_succ hduty2, fun h => hduty2.trans (if_neg h),
      toNat_ite_succ hpos3, fun h => hpos3.trans (if_neg h), fun hout i hi => ?_, fun h => hlfsr.trans (if_neg h)⟩
    exact (congrArg (·.getLsbD i) (hlfsr.trans (if_pos hout))).trans (lfsrNext_getLsbD _ _ hi)
  case output =>
    intro s ch
    refine ⟨digitalOutput_disabled, fun hen => ?_⟩
    cases ch
    case one =>
      exact ⟨fun h => (digitalOutput_one hen).trans (if_pos ((dutyHigh_iff _ _).mpr h)),
        fun h => (digitalOutput_one hen).trans (if_neg (mt (dutyHigh_iff _ _).mp h))⟩
    case two =>
      exact ⟨fun h => (digitalOutput_two hen).trans (if_pos ((dutyHigh_iff _ _).mpr h)),
        fun h => (digitalOutput_two hen).trans (if_neg (mt (dutyHigh_iff _ _).mp h))⟩
    case three =>
      have hout := digitalOutput_three hen
      rw [waveSample_toNat, two_pow_waveShift] at hout
      exact hout
    case four => exact digitalOutput_four hen

end Sys2Proof.Machine
end
